-- ==== Sys2Proof/Word.lean ====
section
/-! DEFINITION. The widths of the block's data: window words, slot entries (`s16`), table entries and stream bytes (`u8`)
(spec/00_scope.md R7, R12). -/

namespace Sys2Proof

/-- A 32-bit word of the host window: a register value or a command word. -/
abbrev Word := BitVec 32

/-- A `u8`: one quantization factor, or one byte of the output stream. -/
abbrev Byte := BitVec 8

/-- An `s16`: one block-buffer entry or one DC predictor, read as signed two's complement with `BitVec.toInt`. -/
abbrev S16 := BitVec 16

/-- One slot of the block buffer: 64 entries in raster order (R14, R30). -/
abbrev Block := Vector S16 64

/-- One quantization table: 64 factors in natural raster order (R33). -/
abbrev Table := Vector Byte 64

end Sys2Proof
end

