-- ==== Sys2Proof/Config.lean ====
section
/-! DEFINITION. What this hardware fixes (the parameters of spec/00_scope.md R7) and what the spec leaves open: the free
values, constants with no body, so that no proof can rest on what they are. -/

namespace Sys2Proof

/-- The sink's answer to one offered byte (R72). -/
inductive SinkAnswer where
  | accept
  | reject
  | stall
deriving DecidableEq, Repr, Inhabited

namespace Config

/-- `NSLOTS`, the number of 8x8 slots of the block buffer (R7, D3). -/
def nslots : Nat := 16

/-- `DEFAULT_QUALITY`, the quality of `ENCRST` without explicit tables (R7, D4). -/
def defaultQuality : Nat := 75

/-- `DIM_MAX`, the largest image width or height `ENCRST` accepts (R7, D29). -/
def dimMax : Nat := 65535

/-- The `SINK` oracle (R7, R72): the answer to the `n`-th draw, where the state lists no answer. Free: log entry 2. -/
opaque sinkAnswer : Nat → SinkAnswer

/-- A 32-bit value the spec calls unspecified (R68, R188, R190, R283), for the `n`-th draw. Free: log entries 8, 10 and 27. -/
opaque freeWord : Nat → Word

/-- The code bits of a block command on an unwritten slot (R283, U4), for the `n`-th draw. Free: log entry 27. -/
opaque freeBits : Nat → List Bool

/-- The unspecified contents of slot entry `(s, i)` after a reset that is the `n`-th draw (R32, U1). Free: log entry 5. -/
opaque resetSlot : Nat → Fin 16 → Fin 64 → S16

/-- The unspecified contents of `QT[t][i]` after a reset that is the `n`-th draw (R34, U2). Free: log entry 5. -/
opaque resetQt : Nat → Fin 2 → Fin 64 → Byte

/-- The unspecified contents of `SQT[t][i]` after a reset that is the `n`-th draw (R40, U3). Free: log entry 5. -/
opaque resetSqt : Nat → Fin 2 → Fin 64 → Byte

end Config
end Sys2Proof
end

