-- ==== Sys2Proof/Syntax.lean ====
section
/-! DEFINITION. The eleven commands (spec/30_encoding.md R80-R83): one constructor per row of spec/opcode_table.json, with the
operand fields as the command word carries them. -/

namespace Sys2Proof

/-- A 4-bit field of the command word, read as an unsigned number (R82): a slot, a table index or a base selector.
Values that R86 rejects are fields too: the command that carries one decodes, and completes with `BAD_OPERAND`. -/
abbrev OpField := Fin 16

/-- The 8-bit `IMM` field, read as an unsigned number (R82). -/
abbrev Imm := Fin 256

/-- The command word cut into its fields (R80). -/
structure Fields where
  op  : Fin 256
  rd  : OpField
  rs1 : OpField
  rs2 : OpField
  rs3 : OpField
  imm : Imm
deriving DecidableEq, Repr

/-- A command, destination first as in the assembler syntax of R91. -/
inductive Instr where
  /-- `FDCT sd, ss` (R113) -/
  | fdct (d s : OpField)
  /-- `IDCT sd, ss` (R118) -/
  | idct (d s : OpField)
  /-- `QBUILD tt, base, q` (R133): `t = RD`, the slot field `s = RS1`, `BSEL = RS2`, `q = IMM` -/
  | qbuild (t s bsel : OpField) (q : Imm)
  /-- `QBUILDP q` (R134) -/
  | qbuildp (q : Imm)
  /-- `QUANT sd, ss, tt` (R137) -/
  | quant (d s t : OpField)
  /-- `DOWNS sd, sb` (R152) -/
  | downs (d b : OpField)
  /-- `UPS sb, ss` (R155) -/
  | ups (b s : OpField)
  /-- `ENCRST mode, tables` (R170): `EXPL = IMM[2]`, `MODE = IMM[1:0]` -/
  | encrst (expl : Bool) (mode : Fin 4)
  /-- `ENCBLK1 ss` (R180) -/
  | encblk1 (s : OpField)
  /-- `ENCBLK3 sa, sb, sc` (R185) -/
  | encblk3 (a b c : OpField)
  /-- `ENCFIN` (R190) -/
  | encfin
deriving DecidableEq, Repr

end Sys2Proof
end

