-- ==== Sys2Proof/WellFormed.lean ====
section
/-! DEFINITION. The operand range checks of spec/30_encoding.md R86, as a predicate on commands. A command that fails one still
decodes: it completes with `BAD_OPERAND` (Machine/Operands.lean makes the same checks where a meaning raises it). -/

namespace Sys2Proof

namespace WellFormed

/-- A one-slot operand: `s < NSLOTS`. -/
def slot (s : Nat) : Bool := decide (s < Config.nslots)

/-- A four-slot operand: `b + 3 < NSLOTS`. -/
def fourSlots (b : Nat) : Bool := decide (b + 3 < Config.nslots)

/-- A table operand: `t <= 1`. -/
def table (t : Nat) : Bool := decide (t ≤ 1)

/-- The base selector: `BSEL <= 2`. -/
def baseSelector (bsel : Nat) : Bool := decide (bsel ≤ 2)

end WellFormed

/-- Every operand is in the range R86 asks for. -/
def Instr.wellFormed : Instr → Bool
  | .fdct d s => WellFormed.slot d && WellFormed.slot s
  | .idct d s => WellFormed.slot d && WellFormed.slot s
  | .qbuild t s bsel _ =>
      WellFormed.table t && WellFormed.baseSelector bsel && (bsel.val != 2 || WellFormed.slot s)
  | .qbuildp _ => true
  | .quant d s t => WellFormed.slot d && WellFormed.slot s && WellFormed.table t
  | .downs d b => WellFormed.slot d && WellFormed.fourSlots b
  | .ups b s => WellFormed.fourSlots b && WellFormed.slot s
  | .encrst _ _ => true
  | .encblk1 s => WellFormed.slot s
  | .encblk3 a b c => WellFormed.slot a && WellFormed.slot b && WellFormed.slot c
  | .encfin => true

end Sys2Proof
end

