-- ==== Sys2Proof/Decode.lean ====
section
/-! DEFINITION. From a command word to a command and back (spec/30_encoding.md R80-R90). The decoder is total: a word either is
one of the eleven commands or is rejected by name; both rejections complete with `ILLEGAL_CMD` (R84, R85). -/

namespace Sys2Proof

/-- Why a word is no command. -/
inductive Reject where
  /-- `OP` is 0x00 or in 0x0C-0xFF (R84). -/
  | reservedOpcode
  /-- An assigned `OP` with a non-zero field its format reserves, or `ENCRST` with a non-zero `IMM[7:3]` (R85). -/
  | reservedField
deriving DecidableEq, Repr

/-- The bits `[lo+3:lo]` of a word. -/
def field4 (w : Word) (lo : Nat) : OpField := ⟨w.toNat / 2 ^ lo % 16, Nat.mod_lt _ (by decide)⟩

/-- The bits `[lo+7:lo]` of a word. -/
def field8 (w : Word) (lo : Nat) : Fin 256 := ⟨w.toNat / 2 ^ lo % 256, Nat.mod_lt _ (by decide)⟩

/-- A word cut into the fields of R80. -/
def fieldsOf (w : Word) : Fields :=
  { op := field8 w 24, rd := field4 w 20, rs1 := field4 w 16, rs2 := field4 w 12, rs3 := field4 w 8, imm := field8 w 0 }

/-- The word with these fields (R80). -/
def Fields.toWord (f : Fields) : Word :=
  BitVec.ofNat 32 (f.op * 2 ^ 24 + f.rd * 2 ^ 20 + f.rs1 * 2 ^ 16 + f.rs2 * 2 ^ 12 + f.rs3 * 2 ^ 8 + f.imm)

/-- `i` if the fields the format marks `0` are zero, else the rejection of R85. -/
def ifReserved (zero : Bool) (i : Instr) : Except Reject Instr :=
  if zero then .ok i else .error .reservedField

/-- Formats `F2` and the like (R81): `RS2`, `RS3` and `IMM` are reserved. -/
def Fields.zero23i (f : Fields) : Bool := f.rs2 == 0 && f.rs3 == 0 && f.imm == 0

/-- The opcode map of R83 with the formats of R81. -/
def decodeFields (f : Fields) : Except Reject Instr :=
  match f.op.val with
  | 0x01 => ifReserved f.zero23i (.fdct f.rd f.rs1)
  | 0x02 => ifReserved f.zero23i (.idct f.rd f.rs1)
  | 0x03 => ifReserved (f.rs3 == 0) (.qbuild f.rd f.rs1 f.rs2 f.imm)
  | 0x04 => ifReserved (f.rd == 0 && f.rs1 == 0 && f.rs2 == 0 && f.rs3 == 0) (.qbuildp f.imm)
  | 0x05 => ifReserved (f.rs3 == 0 && f.imm == 0) (.quant f.rd f.rs1 f.rs2)
  | 0x06 => ifReserved f.zero23i (.downs f.rd f.rs1)
  | 0x07 => ifReserved f.zero23i (.ups f.rd f.rs1)
  | 0x08 =>
      ifReserved (f.rd == 0 && f.rs1 == 0 && f.rs2 == 0 && f.rs3 == 0 && f.imm.val / 8 == 0)
        (.encrst (f.imm.val / 4 % 2 == 1) ⟨f.imm.val % 4, Nat.mod_lt _ (by decide)⟩)
  | 0x09 => ifReserved (f.rd == 0 && f.zero23i) (.encblk1 f.rs1)
  | 0x0A => ifReserved (f.rd == 0 && f.imm == 0) (.encblk3 f.rs1 f.rs2 f.rs3)
  | 0x0B => ifReserved (f.rd == 0 && f.rs1 == 0 && f.zero23i) .encfin
  | _ => .error .reservedOpcode

/-- The decoder. A word alone decides the command (R88). -/
def decode (w : Word) : Except Reject Instr := decodeFields (fieldsOf w)

/-- The fields of a command, from the syntax table of R91. -/
def encodeFields : Instr → Fields
  | .fdct d s => { op := 0x01, rd := d, rs1 := s, rs2 := 0, rs3 := 0, imm := 0 }
  | .idct d s => { op := 0x02, rd := d, rs1 := s, rs2 := 0, rs3 := 0, imm := 0 }
  | .qbuild t s bsel q => { op := 0x03, rd := t, rs1 := s, rs2 := bsel, rs3 := 0, imm := q }
  | .qbuildp q => { op := 0x04, rd := 0, rs1 := 0, rs2 := 0, rs3 := 0, imm := q }
  | .quant d s t => { op := 0x05, rd := d, rs1 := s, rs2 := t, rs3 := 0, imm := 0 }
  | .downs d b => { op := 0x06, rd := d, rs1 := b, rs2 := 0, rs3 := 0, imm := 0 }
  | .ups b s => { op := 0x07, rd := b, rs1 := s, rs2 := 0, rs3 := 0, imm := 0 }
  | .encrst expl mode =>
      { op := 0x08, rd := 0, rs1 := 0, rs2 := 0, rs3 := 0,
        imm := ⟨(if expl then 4 else 0) + mode.val, by have := mode.isLt; split <;> omega⟩ }
  | .encblk1 s => { op := 0x09, rd := 0, rs1 := s, rs2 := 0, rs3 := 0, imm := 0 }
  | .encblk3 a b c => { op := 0x0A, rd := 0, rs1 := a, rs2 := b, rs3 := c, imm := 0 }
  | .encfin => { op := 0x0B, rd := 0, rs1 := 0, rs2 := 0, rs3 := 0, imm := 0 }

/-- The word of a command. -/
def encode (i : Instr) : Word := (encodeFields i).toWord

/-- The command the decoder reads from an instruction whose bits are `w`, numbered as spec/opcode_table.json numbers them.
Every command is exactly one 32-bit word (R88): bits of `w` at and above `nbits` do not belong to the instruction, and a
value that still needs more than 32 bits is no command. -/
def decodeTableWord (nbits w : Nat) : Option Instr :=
  if w % 2 ^ nbits < 2 ^ 32 then (decode (BitVec.ofNat 32 (w % 2 ^ nbits))).toOption else none

/-! ## Assembler text (R91) -/

/-- A slot as the assembler writes it. -/
def slotText (n : OpField) : String := "s" ++ toString n.val

/-- A table as the assembler writes it. -/
def tableText (t : OpField) : String := "t" ++ toString t.val

/-- The base of `QBUILD`: a ROM table, a slot, or, as V10 of spec/95_test_vectors.md writes an invalid selector, its number. -/
def baseText (s bsel : OpField) : String :=
  if bsel = 0 then "rom_l" else if bsel = 1 then "rom_c" else if bsel = 2 then slotText s else toString bsel.val

/-- The mode of `ENCRST`; the spec gives no name to 2 and 3, and their number stands here. -/
def modeText (mode : Fin 4) : String :=
  if mode = 0 then "gray" else if mode = 1 then "ycc444" else toString mode.val

/-- A command in the assembler syntax of R91, destination first. -/
def Instr.text : Instr → String
  | .fdct d s => "FDCT " ++ slotText d ++ ", " ++ slotText s
  | .idct d s => "IDCT " ++ slotText d ++ ", " ++ slotText s
  | .qbuild t s bsel q => "QBUILD " ++ tableText t ++ ", " ++ baseText s bsel ++ ", " ++ toString q.val
  | .qbuildp q => "QBUILDP " ++ toString q.val
  | .quant d s t => "QUANT " ++ slotText d ++ ", " ++ slotText s ++ ", " ++ tableText t
  | .downs d b => "DOWNS " ++ slotText d ++ ", " ++ slotText b
  | .ups b s => "UPS " ++ slotText b ++ ", " ++ slotText s
  | .encrst expl mode => "ENCRST " ++ modeText mode ++ ", " ++ (if expl then "explicit" else "default")
  | .encblk1 s => "ENCBLK1 " ++ slotText s
  | .encblk3 a b c => "ENCBLK3 " ++ slotText a ++ ", " ++ slotText b ++ ", " ++ slotText c
  | .encfin => "ENCFIN"

end Sys2Proof
end

