-- ==== Sys2Proof/Machine/State.lean ====
section
/-! DEFINITION. The state of the block as plain data (spec/10_state.md R20-R47), with the environment's moves that one
deterministic step needs (who moves next, the sink's answers): those fields are the model's own and are marked so. -/

namespace Sys2Proof.Machine

/-- The error codes a completion can carry (R250). Codes 7-15 are never written. -/
inductive ErrorCode where
  | none
  | illegalCmd
  | badOperand
  | sequencing
  | configuration
  | dataRange
  | io
deriving DecidableEq, Repr

/-- `ENC_STATE` (R36). -/
inductive EncState where
  | uninit
  | ready
  | closed
  | error
deriving DecidableEq, Repr

/-- `ENC_MODE` (R38): Gray (one component) or YCbCr444 (three components). -/
inductive ColorMode where
  | gray
  | ycc444
deriving DecidableEq, Repr

/-- A host access to the window (R60): an offset, a width in bytes and, for a write, the word. Only width 4 at a multiple of
4 is legal (R62). -/
inductive HostAccess where
  | read (off : Fin 8192) (bytes : Nat)
  | write (off : Fin 8192) (bytes : Nat) (v : Word)
deriving DecidableEq, Repr

/-- What the bus answered to the latest host access. -/
inductive BusReply where
  /-- no access yet -/
  | none
  /-- the word a read returned -/
  | data (v : Word)
  /-- a write was taken -/
  | written
  /-- an illegal access: a bus error (R62, R271) -/
  | busError
deriving DecidableEq, Repr

/-- Who moves in a step (R9): the agents are host, engine and sink; the sink's moves are its answers, `State.sink`. -/
inductive Turn where
  /-- the engine moves -/
  | engine
  /-- the host performs one access -/
  | host (a : HostAccess)
  /-- the host performs one access in the same step in which the engine moves (R26, R263) -/
  | both (a : HostAccess)
  /-- the host waits (R92 `WAIT`): it reads `STATUS` and, while the word shows `BUSY`, lets the engine move and waits on -/
  | wait
  /-- the reset input is asserted (R280, R281) -/
  | reset
  /-- the platform connects the output port to a fresh sink (R175, R283) -/
  | freshSink
deriving DecidableEq, Repr

/-- What is left to do when the last byte of a command has been accepted. -/
inductive Finish where
  /-- `ENCRST`: `ENC_STATE <- READY` (R170) -/
  | openSession
  /-- `ENCBLK1`, `ENCBLK3`: the predictors and the bit buffer after the blocks, and one more MCU (R183, R184) -/
  | codeBlocks (pred0 pred1 pred2 : S16) (bitacc : BitVec 7) (bitcnt : Fin 8)
  /-- `ENCFIN`: `ENC_STATE <- CLOSED` (R190) -/
  | closeSession
deriving DecidableEq, Repr

/-- The engine's activity (R47). `BUSY` is 1 unless it is `idle`. -/
inductive Engine where
  | idle
  /-- `CMD` holds a command that has been accepted and has not run yet -/
  | accepted
  /-- the sink stalled on byte `b`: the engine holds it, the bytes after it and what is left to do -/
  | offering (b : Byte) (rest : List Byte) (fin : Finish)
deriving DecidableEq, Repr

/-- The block. `ID` and `CFG` (R22, R23) and the ROMs (R46) are constants and have no field; `STATUS` is assembled from its
fields (R25). -/
structure State where
  /-- `CTRL.IE` (R24) -/
  ctrlIE : Bool
  /-- `STATUS.DONE` (R25) -/
  done : Bool
  /-- `STATUS.ERR` (R25) -/
  err : Bool
  /-- `STATUS.CMD_OVERRUN` (R25) -/
  cmdOverrun : Bool
  /-- `STATUS.ACC_CONFLICT` (R25) -/
  accConflict : Bool
  /-- `STATUS.INCOMPLETE` (R39) -/
  incomplete : Bool
  /-- `STATUS.ERRCODE` (R27) -/
  errcode : ErrorCode
  /-- `STATUS.ENC_STATE` (R36) -/
  encState : EncState
  /-- `STATUS.ENC_MODE` (R38) -/
  encMode : ColorMode
  /-- `CMD`, the last accepted command word (R28) -/
  cmd : Word
  /-- `WIDTH` (R29) -/
  width : Word
  /-- `HEIGHT` (R29) -/
  height : Word
  /-- `MCU_TOTAL` (R41) -/
  mcuTotal : Word
  /-- `MCU_COUNT` (R41) -/
  mcuCount : Word
  /-- `PRED_DC0` (R42) -/
  pred0 : S16
  /-- `PRED_DC1` (R42) -/
  pred1 : S16
  /-- `PRED_DC2` (R42) -/
  pred2 : S16
  /-- `BITSTATE.BITACC` (R43) -/
  bitacc : BitVec 7
  /-- `BITSTATE.BITCNT` (R43) -/
  bitcnt : Fin 8
  /-- `OUT_COUNT` (R44) -/
  outCount : Word
  /-- the block buffer `slot[0..15]` (R30) -/
  slots : Vector Block 16
  /-- the model's own: which entries of the block buffer have been written since the reset (R283, U4) -/
  written : Vector (Vector Bool 64) 16
  /-- the quantization table RAM `QT[0..1]` (R33) -/
  qt : Vector Table 2
  /-- the session's tables `SQT[0..1]` (R40) -/
  sqt : Vector Table 2
  /-- engine activity: `BUSY` and the progress of the current command (R47) -/
  engine : Engine
  /-- `WIDTH` as it stood when the current command was accepted (R170) -/
  sampledWidth : Word
  /-- `HEIGHT` as it stood when the current command was accepted (R170) -/
  sampledHeight : Word
  /-- the output stream: the bytes accepted since the last `ENCRST` began, position 0 first (R60) -/
  stream : List Byte
  /-- the model's own: every byte the connected sink has accepted, first byte first (R73, R281) -/
  sinkHolds : List Byte
  /-- the model's own: the bus's answer to the latest host access -/
  busReply : BusReply
  /-- the model's own: who moves in the coming steps; beyond the list only the engine moves -/
  turns : List Turn
  /-- the model's own: the sink's coming answers; beyond the list they are drawn from `Config.sinkAnswer` -/
  sink : List SinkAnswer
  /-- the model's own: how many free values have been drawn -/
  draws : Nat
deriving DecidableEq, Repr

/-- The block has no fault: an error is a completion with a code and the machine goes on (R261), an illegal host access is
answered on the bus (R271). There is no constructor. -/
inductive Fault where
deriving DecidableEq, Repr

/-- Why a step has no meaning in the model. -/
inductive Refusal where
  /-- Raised by an arm of `exec` for an instruction without a meaning yet. No arm raises it. Safe: the machine stops. -/
  | notModelled (mnemonic : String)
deriving DecidableEq, Repr

/-- The state after power-on reset (R280). The three RAMs hold unspecified values (R32, R34, R40): free values of draw 0. -/
def State.reset : State :=
  { ctrlIE := false, done := false, err := false, cmdOverrun := false, accConflict := false, incomplete := false,
    errcode := .none, encState := .uninit, encMode := .gray,
    cmd := 0, width := 0, height := 0, mcuTotal := 0, mcuCount := 0, pred0 := 0, pred1 := 0, pred2 := 0,
    bitacc := 0, bitcnt := 0, outCount := 0,
    slots := Vector.ofFn fun s => Vector.ofFn fun i => Config.resetSlot 0 s i,
    written := Vector.replicate 16 (Vector.replicate 64 false),
    qt := Vector.ofFn fun t => Vector.ofFn fun i => Config.resetQt 0 t i,
    sqt := Vector.ofFn fun t => Vector.ofFn fun i => Config.resetSqt 0 t i,
    engine := .idle, sampledWidth := 0, sampledHeight := 0,
    stream := [], sinkHolds := [], busReply := .none, turns := [], sink := [], draws := 1 }

end Sys2Proof.Machine
end

