-- ==== Sys2Proof/Machine/Bitstream.lean ====
section
/-! DEFINITION. Entropy coding, bit packing with byte stuffing, and the segments of the stream (spec/44_bitstream.md). -/

namespace Sys2Proof.Machine

/-! ## Categories and symbols (R212-R215) -/

/-- `Cat(v)`: the number of bits of `abs(v)` (R212). -/
def category (v : Int) : Nat := if v = 0 then 0 else Nat.log2 v.natAbs + 1

/-- `Addl(v, n)` (R213): the additional bits of a non-zero `v` of category `n`. -/
def additional (v : Int) (n : Nat) : Bits :=
  { value := (if 0 < v then v else v + 2 ^ n - 1).toNat, n := n }

/-- The component class that selects the Huffman tables (R222): `luma` for Gray and Y, `chroma` for Cb and Cr. -/
inductive CodeClass where
  | luma
  | chroma
deriving DecidableEq, Repr

/-- `DCCODE[class]` (R214). -/
def CodeClass.dc : CodeClass → HuffTable
  | .luma => dcL
  | .chroma => dcC

/-- `ACCODE[class]` (R215). -/
def CodeClass.ac : CodeClass → HuffTable
  | .luma => acL
  | .chroma => acC

/-- `EncodeDC(diff, class)` as its calls of `PutBits` (R214). -/
def encodeDC (diff : Int) (c : CodeClass) : List Bits :=
  let n := category diff
  c.dc.code n :: if 0 < n then [additional diff n] else []

/-- The body of `EncodeAC` with `run` zeros pending (R215). -/
def encodeRuns (c : CodeClass) (run : Nat) : List Int → List Bits
  | [] => if 0 < run then [c.ac.code 0x00] else []
  | v :: rest =>
      if v = 0 then encodeRuns c (run + 1) rest
      else
        List.replicate (run / 16) (c.ac.code 0xF0) ++
          c.ac.code (16 * (run % 16) + category v) :: additional v (category v) :: encodeRuns c 0 rest

/-- `EncodeAC(z, class)` for the 63 AC values in zig-zag order, as its calls of `PutBits` (R215). -/
def encodeAC (ac : List Int) (c : CodeClass) : List Bits := encodeRuns c 0 ac

/-! ## Bit packing and stuffing (R223-R225) -/

/-- The bit buffer `BITACC`/`BITCNT`, and the entropy-coded bytes it has completed, stuffed zeros included. -/
structure Packer where
  acc : BitVec 7
  cnt : Fin 8
  out : List Byte
deriving DecidableEq, Repr

/-- `EmitEntropyByte(b)` (R224): the byte, and a zero byte after `0xFF`. -/
def stuffed (b : Byte) : List Byte := if b = 0xFF then [b, 0x00] else [b]

/-- One bit into the buffer (R223): the 8th bit completes a byte. -/
def Packer.putBit (p : Packer) (bit : Bool) : Packer :=
  if p.cnt = 7 then { acc := 0, cnt := 0, out := p.out ++ stuffed (p.acc.concat bit) }
  else { p with acc := p.acc.shiftConcat bit, cnt := p.cnt + 1 }

/-- The bits of a `PutBits` call, most significant first (R223). -/
def Bits.toBools (b : Bits) : List Bool := (List.range b.n).reverse.map fun j => b.value.testBit j

/-- `PutBits` (R223). -/
def Packer.putBits (p : Packer) (b : Bits) : Packer := b.toBools.foldl Packer.putBit p

/-- A sequence of `PutBits` calls. -/
def Packer.putAll (p : Packer) (bs : List Bits) : Packer := bs.foldl Packer.putBits p

/-- `FlushBits()` as the bytes it emits (R225): the pending bits at the top of a byte, 1-bits below them. -/
def flushBytes (acc : BitVec 7) (cnt : Fin 8) : List Byte :=
  if cnt = 0 then []
  else stuffed ((acc.setWidth 8 <<< (8 - cnt.val)) ||| BitVec.ofNat 8 (2 ^ (8 - cnt.val) - 1))

/-! ## Segments (R230-R235) -/

/-- A 16-bit field, most significant byte first (R66). -/
def be16 (n : Nat) : List Byte := [BitVec.ofNat 8 (n / 256), BitVec.ofNat 8 n]

/-- A marker: `0xFF` and its code (R230-R235), never stuffed (R224). -/
def marker (code : Byte) : List Byte := [0xFF, code]

/-- `Nf`, the number of components (R230). -/
def ColorMode.components : ColorMode → Nat
  | .gray => 1
  | .ycc444 => 3

/-- The 64 factors of a table in zig-zag order (R231). -/
def zigzagFactors (t : Table) : List Byte := zz.toList.map fun j => t[j]

/-- The DQT segment (R231). -/
def dqtSegment (m : ColorMode) (sqt : Vector Table 2) : List Byte :=
  match m with
  | .gray => marker 0xDB ++ be16 (2 + 65) ++ 0x00 :: zigzagFactors sqt[0]
  | .ycc444 => marker 0xDB ++ be16 (2 + 65 * 2) ++ 0x00 :: zigzagFactors sqt[0] ++ 0x01 :: zigzagFactors sqt[1]

/-- The component entries of the frame header (R232): `Ci`, `Hi/Vi`, `Tqi`. -/
def frameComponents : ColorMode → List Byte
  | .gray => [0x01, 0x11, 0x00]
  | .ycc444 => [0x01, 0x11, 0x00, 0x02, 0x11, 0x01, 0x03, 0x11, 0x01]

/-- The SOF0 segment (R232). -/
def sof0Segment (m : ColorMode) (w h : Nat) : List Byte :=
  marker 0xC0 ++ be16 (8 + 3 * m.components) ++ 0x08 :: be16 h ++ be16 w ++
    BitVec.ofNat 8 m.components :: frameComponents m

/-- One table of the DHT segment (R233): `Tc/Th`, the `BITS` bytes and the `HUFFVAL` bytes. -/
def dhtTable (id : Byte) (t : HuffTable) : List Byte := id :: (t.bits ++ t.vals).map (BitVec.ofNat 8)

/-- The DHT segment (R233). -/
def dhtSegment : ColorMode → List Byte
  | .gray => marker 0xC4 ++ be16 0x00D2 ++ dhtTable 0x00 dcL ++ dhtTable 0x10 acL
  | .ycc444 =>
      marker 0xC4 ++ be16 0x01A2 ++ dhtTable 0x00 dcL ++ dhtTable 0x10 acL ++ dhtTable 0x01 dcC ++ dhtTable 0x11 acC

/-- The component entries of the scan header (R234): `Csj`, `Tdj/Taj`. -/
def scanComponents : ColorMode → List Byte
  | .gray => [0x01, 0x00]
  | .ycc444 => [0x01, 0x00, 0x02, 0x11, 0x03, 0x11]

/-- The SOS segment (R234). -/
def sosSegment (m : ColorMode) : List Byte :=
  marker 0xDA ++ be16 (6 + 2 * m.components) ++ BitVec.ofNat 8 m.components :: scanComponents m ++ [0x00, 0x3F, 0x00]

/-- `EmitHeader(MODE, W, H, SQT)` as the bytes it emits (R230). -/
def headerBytes (m : ColorMode) (w h : Nat) (sqt : Vector Table 2) : List Byte :=
  marker 0xD8 ++ dqtSegment m sqt ++ sof0Segment m w h ++ dhtSegment m ++ sosSegment m

/-- EOI (R235). -/
def eoi : List Byte := marker 0xD9

end Sys2Proof.Machine
end

