-- ==== Sys2Proof/Machine/Ops.lean ====
section
/-! DEFINITION. The operations every command is written over: the RAMs, the completion (the one way a command reports an error,
spec/60_exceptions.md R253, R260), accepting a command (R28), offering bytes to the sink (spec/20_memory.md R72) and the reset
input (spec/70_reset_and_hazards.md R280, R281). -/

namespace Sys2Proof.Machine

namespace State

/-- `STATUS.BUSY` (R47). -/
def busy (s : State) : Bool := s.engine != .idle

/-- `slot[n]` (R13). -/
def slot (s : State) (n : OpField) : Block := s.slots[n]

/-- `slot[n][i] <- b[i]` for every `i`: all 64 entries have then been written. -/
def setSlot (s : State) (n : OpField) (b : Block) : State :=
  { s with slots := s.slots.set n b, written := s.written.set n (Vector.replicate 64 true) }

/-- Every entry of slot `n` has been written since the reset (R283). -/
def slotWritten (s : State) (n : OpField) : Bool := decide (∀ i : Fin 64, s.written[n][i] = true)

/-- `QT[t][i] <- b[i]` for every `i`. -/
def setQt (s : State) (t : Fin 2) (b : Table) : State := { s with qt := s.qt.set t b }

/-- Completion (R260). -/
def complete (s : State) (code : ErrorCode) : State :=
  { s with errcode := code, err := s.err || code != .none, done := true, engine := .idle }

/-- An encoder command's error 3 to 5 (R253): `ENC_STATE <- ERROR`, and the completion. -/
def failEncoder (s : State) (code : ErrorCode) : State := { s with encState := .error }.complete code

/-- A command word is accepted (R28): `BUSY <- 1`, `CMD <- w`, and `WIDTH` and `HEIGHT` are sampled (R170). -/
def accept (s : State) (w : Word) : State :=
  { s with cmd := w, engine := .accepted, sampledWidth := s.width, sampledHeight := s.height }

/-! ## Results on unwritten slots (R283 item 1, U4) -/

/-- `k` free values have been drawn. -/
def drawn (s : State) (k : Nat) : State := { s with draws := s.draws + k }

/-- A free choice between two outcomes. -/
def freeChoice (s : State) (a b : State → State) : State :=
  if (Config.freeWord s.draws).getLsbD 0 then a (s.drawn 1) else b (s.drawn 1)

/-- A block of free values, from the 64 draws after `k` others. -/
def freeBlock (s : State) (k : Nat) : Block := Vector.ofFn fun i => (Config.freeWord (s.draws + k + i.val)).setWidth 16

/-- `slot[n][i] <-` any value, for every `i`. -/
def setFreeSlot (s : State) (n : OpField) : State := (s.setSlot n (s.freeBlock 0)).drawn 64

/-- `QT[t][i] <-` any value, for every `i`. -/
def setFreeQt (s : State) (t : Fin 2) : State :=
  (s.setQt t (Vector.ofFn fun i => (Config.freeWord (s.draws + i.val)).setWidth 8)).drawn 64

/-! ## The sink -/

/-- The sink's next answer. -/
def answer (s : State) : SinkAnswer :=
  match s.sink with
  | a :: _ => a
  | [] => Config.sinkAnswer s.draws

/-- The state once the sink has given that answer. -/
def takeAnswer (s : State) : State :=
  match s.sink with
  | _ :: rest => { s with sink := rest }
  | [] => { s with draws := s.draws + 1 }

/-- The sink took byte `b` (R72). -/
def appendByte (s : State) (b : Byte) : State :=
  { s with outCount := s.outCount + 1, stream := s.stream ++ [b], sinkHolds := s.sinkHolds ++ [b] }

/-- What a command does once its last byte is accepted (R170, R183, R184, R190). -/
def finish (s : State) : Finish → State
  | .openSession => { s with encState := .ready }
  | .codeBlocks p0 p1 p2 acc cnt =>
      { s with pred0 := p0, pred1 := p1, pred2 := p2, bitacc := acc, bitcnt := cnt, mcuCount := s.mcuCount + 1 }
  | .closeSession => { s with encState := .closed }

/-- `BITSTATE` holds an unspecified value (R188, R190). -/
def freeBitstate (s : State) : State :=
  { s with bitacc := (Config.freeWord s.draws).setWidth 7, bitcnt := Fin.ofNat 8 (Config.freeWord (s.draws + 1)).toNat,
           draws := s.draws + 2 }

/-- `PRED_DC0..2` and `MCU_COUNT` hold unspecified values (R188). -/
def freeCounters (s : State) : State :=
  { s with pred0 := (Config.freeWord s.draws).setWidth 16, pred1 := (Config.freeWord (s.draws + 1)).setWidth 16,
           pred2 := (Config.freeWord (s.draws + 2)).setWidth 16, mcuCount := Config.freeWord (s.draws + 3),
           draws := s.draws + 4 }

/-- The registers that a rejected byte leaves unspecified (R174: none, R188, R190). -/
def afterReject (s : State) : Finish → State
  | .openSession => s
  | .codeBlocks .. => s.freeCounters.freeBitstate
  | .closeSession => s.freeBitstate

/-- Offers the bytes in order, each only after the one before it was accepted (R72, R73), then finishes and completes. A
reject ends the command with `IO`; a stall leaves the engine holding the byte. -/
def offer (s : State) (fin : Finish) : List Byte → State
  | [] => (s.finish fin).complete .none
  | b :: rest =>
      match s.answer with
      | .accept => (s.takeAnswer.appendByte b).offer fin rest
      | .reject => (s.takeAnswer.afterReject fin).failEncoder .io
      | .stall => { s.takeAnswer with engine := .offering b rest fin }

/-- The reset input (R280, R281): every element takes its reset value, a running command is abandoned without a completion,
and the RAMs hold new unspecified values. The bytes the sink holds, and what the environment does next, stay. -/
def powerOn (s : State) : State :=
  { State.reset with
    slots := Vector.ofFn fun n => Vector.ofFn fun i => Config.resetSlot s.draws n i
    qt := Vector.ofFn fun t => Vector.ofFn fun i => Config.resetQt s.draws t i
    sqt := Vector.ofFn fun t => Vector.ofFn fun i => Config.resetSqt s.draws t i
    sinkHolds := s.sinkHolds, busReply := s.busReply, turns := s.turns, sink := s.sink, draws := s.draws + 1 }

end State
end Sys2Proof.Machine
end

