-- ==== Sys2Proof/Machine/Operands.lean ====
section
/-! DEFINITION. Operand forms: the range checks that raise `BAD_OPERAND` (spec/30_encoding.md R86), the checks of slot and table
contents, and the super-block of four consecutive slots (spec/00_scope.md R15, spec/42_resampler.md R150). -/

namespace Sys2Proof.Machine

/-- A one-slot operand is in range (R86). -/
def slotOk (s : OpField) : Bool := decide (s.val < Config.nslots)

/-- A four-slot operand is in range (R86). -/
def fourSlotsOk (b : OpField) : Bool := decide (b.val + 3 < Config.nslots)

/-- A table operand is in range (R86). -/
def tableOk (t : OpField) : Bool := decide (t.val ≤ 1)

/-- The base selector is in range (R86). -/
def baseSelectorOk (bsel : OpField) : Bool := decide (bsel.val ≤ 2)

/-- The table a checked operand names: 0 luma, 1 chroma (R82). -/
def tableIndex (t : OpField) : Fin 2 := ⟨t.val % 2, Nat.mod_lt _ (by decide)⟩

/-- The slot `b + k` of a checked four-slot operand `b`. -/
def slotPlus (b : OpField) (k : Fin 4) : OpField := ⟨(b.val + k.val) % 16, Nat.mod_lt _ (by decide)⟩

/-- Every entry is a sample, 0..255 (R113, R152, R155). -/
def samplesOk (b : Block) : Bool := decide (∀ i : Fin 64, 0 ≤ b[i].toInt ∧ b[i].toInt ≤ 255)

/-- Every entry is a base table entry, 1..255 (R133). -/
def baseEntriesOk (b : Block) : Bool := decide (∀ i : Fin 64, 1 ≤ b[i].toInt ∧ b[i].toInt ≤ 255)

/-- No factor is 0 (R137, R172). -/
def factorsOk (t : Table) : Bool := decide (∀ i : Fin 64, t[i] ≠ 0)

/-- The four quadrants of the super-block at slot `b`: top left, top right, bottom left, bottom right (R150). -/
def State.quadrants (s : State) (b : OpField) : Vector Block 4 := Vector.ofFn fun k => s.slot (slotPlus b k)

/-- The four slots `b..b+3` take these quadrants. -/
def State.setQuadrants (s : State) (b : OpField) (q : Vector Block 4) : State :=
  (((s.setSlot (slotPlus b 0) q[0]).setSlot (slotPlus b 1) q[1]).setSlot (slotPlus b 2) q[2]).setSlot (slotPlus b 3) q[3]

/-- The four slots `b..b+3` have been written. -/
def State.quadrantsWritten (s : State) (b : OpField) : Bool := decide (∀ k : Fin 4, s.slotWritten (slotPlus b k) = true)

/-- The four slots `b..b+3` take any values. -/
def State.setFreeQuadrants (s : State) (b : OpField) : State :=
  (s.setQuadrants b (Vector.ofFn fun k => s.freeBlock (64 * k.val))).drawn 256

/-- The sample `(X, Y)` of a super-block given by its quadrants (R15, R150). -/
def superSample (q : Vector Block 4) (X Y : Fin 16) : Int :=
  (q[2 * (Y.val / 8) + X.val / 8][8 * (Y.val % 8) + X.val % 8]).toInt

end Sys2Proof.Machine
end

