-- ==== Sys2Proof/Machine/Quantize.lean ====
section
/-! DEFINITION. The Quantization Builder and the quantizer (spec/41_quantization.md): `QBUILD`, `QBUILDP`, `QUANT`. -/

namespace Sys2Proof.Machine

/-- A legal quality (R131). -/
def qualityOk (q : Imm) : Bool := decide (1 ≤ q.val ∧ q.val ≤ 100)

/-- `Scale(q)` (R132), with integer division before the multiply (D20). -/
def qualityScale (q : Nat) : Nat := if q < 50 then 5000 / q else 200 - 2 * q

/-- `Entry(base, q)` (R132). -/
def tableEntry (base q : Nat) : Nat := min 255 (max 1 ((base * qualityScale q + 50) / 100))

/-- `Build(B, q)` (R132). -/
def buildTable (base : Vector Nat 64) (q : Nat) : Table := base.map fun b => BitVec.ofNat 8 (tableEntry b q)

/-- The base table `BSEL` names (R82, R133): a ROM table, or a slot whose entries are checked to be 1..255. -/
def baseTable (bsel : OpField) (b : Block) : Vector Nat 64 :=
  if bsel = 0 then baseL else if bsel = 1 then baseC else b.map fun v => v.toInt.toNat

/-- `QBUILD tt, base, q` (R133). On an unwritten base slot the result and whether `CONFIGURATION` is raised are free (R283, U4). -/
def execQbuild (t s bsel : OpField) (q : Imm) (st : State) : Host.Outcome State Fault Refusal :=
  .next <|
    if !(tableOk t && baseSelectorOk bsel && (bsel != 2 || slotOk s)) then st.complete .badOperand
    else if !qualityOk q then st.complete .configuration
    else if bsel == 2 && !st.slotWritten s then
      st.freeChoice (·.complete .configuration) fun u => (u.setFreeQt (tableIndex t)).complete .none
    else if bsel == 2 && !baseEntriesOk (st.slot s) then st.complete .configuration
    else (st.setQt (tableIndex t) (buildTable (baseTable bsel (st.slot s)) q)).complete .none

/-- `QBUILDP q` (R134). -/
def execQbuildp (q : Imm) (st : State) : Host.Outcome State Fault Refusal :=
  .next <|
    if !qualityOk q then st.complete .configuration
    else ((st.setQt 0 (buildTable baseL q)).setQt 1 (buildTable baseC q)).complete .none

/-- `Quant(c, f)` (R136), for a factor `f` in 1..255. -/
def quantize (c : Int) (f : Nat) : Int := c.sign * ((c.natAbs + f / 2) / f : Nat)

/-- A block of quantized coefficients, in raster order (R137). -/
def quantBlock (b : Block) (t : Table) : Block :=
  Vector.ofFn fun i => BitVec.ofInt 16 (quantize b[i].toInt t[i].toNat)

/-- `QUANT sd, ss, tt` (R137). On an unwritten source the result is free (R283, U4). -/
def execQuant (d s t : OpField) (st : State) : Host.Outcome State Fault Refusal :=
  .next <|
    if !(slotOk d && slotOk s && tableOk t) then st.complete .badOperand
    else if !factorsOk st.qt[tableIndex t] then st.complete .configuration
    else if !st.slotWritten s then (st.setFreeSlot d).complete .none
    else (st.setSlot d (quantBlock (st.slot s) st.qt[tableIndex t])).complete .none

end Sys2Proof.Machine
end

