-- ==== Sys2Proof/Machine/Encoder.lean ====
section
/-! DEFINITION. The Streaming Encoder (spec/43_encoder.md): `ENCRST`, `ENCBLK1`, `ENCBLK3`, `ENCFIN`. -/

namespace Sys2Proof.Machine

/-! ## ENCRST (R170-R175) -/

/-- `MODE` (R82): 2 and 3 name no colour mode. -/
def colorMode (mode : Fin 4) : Option ColorMode :=
  if mode = 0 then some .gray else if mode = 1 then some .ycc444 else none

/-- A legal image dimension (R171), read as an unsigned number. -/
def dimensionOk (v : Word) : Bool := decide (1 ≤ v.toNat ∧ v.toNat ≤ Config.dimMax)

/-- `CheckTables(MODE)` (R172). -/
def explicitTablesOk (m : ColorMode) (qt : Vector Table 2) : Bool :=
  factorsOk qt[0] && (m == .gray || factorsOk qt[1])

/-- The tables of a new session (R173). -/
def sessionTables (expl : Bool) (qt : Vector Table 2) : Vector Table 2 :=
  if expl then qt else #v[buildTable baseL Config.defaultQuality, buildTable baseC Config.defaultQuality]

/-- The number of MCUs of a `W` by `H` image (R41). -/
def mcuTotalOf (w h : Nat) : Word := BitVec.ofNat 32 ((w + 7) / 8 * ((h + 7) / 8))

/-- `InitSession(MODE, EXPL, W, H)` (R173), with the sampled `W` and `H`. The stream starts again at position 0 (R60). -/
def State.initSession (s : State) (m : ColorMode) (expl : Bool) : State :=
  { s with
    encMode := m, sqt := sessionTables expl s.qt, pred0 := 0, pred1 := 0, pred2 := 0, bitacc := 0, bitcnt := 0,
    mcuTotal := mcuTotalOf s.sampledWidth.toNat s.sampledHeight.toNat, mcuCount := 0, outCount := 0, stream := [] }

/-- `EmitHeader` for the session just set up (R230). -/
def State.sessionHeader (s : State) : List Byte :=
  headerBytes s.encMode s.sampledWidth.toNat s.sampledHeight.toNat s.sqt

/-- `ENCRST mode, tables` (R170). -/
def execEncrst (expl : Bool) (mode : Fin 4) (st : State) : Host.Outcome State Fault Refusal :=
  .next <|
    let s := { st with incomplete := false }
    match colorMode mode with
    | none => s.failEncoder .configuration
    | some m =>
        if !(dimensionOk s.sampledWidth && dimensionOk s.sampledHeight) then s.failEncoder .configuration
        else if expl && !explicitTablesOk m s.qt then s.failEncoder .configuration
        else (s.initSession m expl).offer .openSession (s.initSession m expl).sessionHeader

/-! ## Coding blocks (R176-R188) -/

/-- A block that may be coded: its quantized DC value, the difference to the predictor, and the AC values in zig-zag order. -/
structure Prepared where
  dc : Int
  diff : Int
  ac : List Int
deriving DecidableEq, Repr

/-- The quantized block in zig-zag order (R176, R211). -/
def zigzag (b : Block) (t : Table) : Vector Int 64 := zz.map fun j => quantize b[j].toInt t[j].toNat

/-- `PrepareBlock` (R176); `none` where it raises `DATA_RANGE`. -/
def prepareBlock (b : Block) (t : Table) (pred : S16) : Option Prepared :=
  let z := zigzag b t
  let p : Prepared := { dc := z[0], diff := z[0] - pred.toInt, ac := z.toList.tail }
  if category p.diff ≤ 11 ∧ ∀ v ∈ p.ac, category v ≤ 10 then some p else none

/-- `CodeBlock` as its calls of `PutBits` (R177). -/
def codeBlock (p : Prepared) (c : CodeClass) : List Bits := encodeDC p.diff c ++ encodeAC p.ac c

/-- The bit buffer between commands (R43). -/
def State.packer (s : State) : Packer := { acc := s.bitacc, cnt := s.bitcnt, out := [] }

/-- The codes go out after the pending bits; then the predictors are `p0`, `p1`, `p2` and one more MCU is counted. -/
def State.emitBlocks (s : State) (bs : List Bits) (p0 p1 p2 : S16) : State :=
  let p := s.packer.putAll bs
  s.offer (.codeBlocks p0 p1 p2 p.acc p.cnt) p.out

/-- The most bits a luma block codes to (R296). -/
def lumaBits : Nat := 1658

/-- The most bits a chroma block codes to (R296). -/
def chromaBits : Nat := 1408

/-- A block command on an unwritten slot that succeeds (R283, U4): any code bits, at most `most` of them, and any value for
the predictor of the first block and, for three blocks, of the others. -/
def State.emitFree (s : State) (most : Nat) (three : Bool) : State :=
  let codes : List Bits := ((Config.freeBits s.draws).take most).map fun b => { value := b.toNat, n := 1 }
  (s.drawn 4).emitBlocks codes ((Config.freeWord (s.draws + 1)).setWidth 16)
    (if three then (Config.freeWord (s.draws + 2)).setWidth 16 else s.pred1)
    (if three then (Config.freeWord (s.draws + 3)).setWidth 16 else s.pred2)

/-- All MCUs of the image have been coded (R184). -/
def State.imageComplete (s : State) : Bool := decide (s.mcuTotal.toNat ≤ s.mcuCount.toNat)

/-- `ENCBLK1 ss` (R180). On an unwritten slot the result and whether `DATA_RANGE` is raised are free (R283, U4). -/
def execEncblk1 (s : OpField) (st : State) : Host.Outcome State Fault Refusal :=
  .next <|
    if !slotOk s then st.complete .badOperand
    else if st.encState != .ready then st.failEncoder .sequencing
    else if st.encMode != .gray then st.failEncoder .configuration
    else if st.imageComplete then st.failEncoder .sequencing
    else if !st.slotWritten s then st.freeChoice (·.failEncoder .dataRange) (·.emitFree lumaBits false)
    else
      match prepareBlock (st.slot s) st.sqt[0] st.pred0 with
      | none => st.failEncoder .dataRange
      | some p => st.emitBlocks (codeBlock p .luma) (BitVec.ofInt 16 p.dc) st.pred1 st.pred2

/-- `ENCBLK3 sa, sb, sc` (R185). On an unwritten slot the result and whether `DATA_RANGE` is raised are free (R283, U4). -/
def execEncblk3 (a b c : OpField) (st : State) : Host.Outcome State Fault Refusal :=
  .next <|
    if !(slotOk a && slotOk b && slotOk c) then st.complete .badOperand
    else if st.encState != .ready then st.failEncoder .sequencing
    else if st.encMode != .ycc444 then st.failEncoder .configuration
    else if st.imageComplete then st.failEncoder .sequencing
    else if !(st.slotWritten a && st.slotWritten b && st.slotWritten c) then
      st.freeChoice (·.failEncoder .dataRange) (·.emitFree (lumaBits + 2 * chromaBits) true)
    else
      match prepareBlock (st.slot a) st.sqt[0] st.pred0, prepareBlock (st.slot b) st.sqt[1] st.pred1,
          prepareBlock (st.slot c) st.sqt[1] st.pred2 with
      | some pY, some pB, some pR =>
          st.emitBlocks (codeBlock pY .luma ++ codeBlock pB .chroma ++ codeBlock pR .chroma)
            (BitVec.ofInt 16 pY.dc) (BitVec.ofInt 16 pB.dc) (BitVec.ofInt 16 pR.dc)
      | _, _, _ => st.failEncoder .dataRange

/-! ## ENCFIN (R190, R191) -/

/-- `ENCFIN` (R190). -/
def execEncfin (st : State) : Host.Outcome State Fault Refusal :=
  .next <|
    if st.encState = .ready then
      { st with incomplete := decide (st.mcuCount.toNat < st.mcuTotal.toNat), bitacc := 0, bitcnt := 0 }.offer .closeSession
        (flushBytes st.bitacc st.bitcnt ++ eoi)
    else ({ st with encState := .closed } : State).complete .none

end Sys2Proof.Machine
end

