-- ==== Sys2Proof/Machine/Transform.lean ====
section
/-! DEFINITION. The Transform Engine (spec/40_transform.md): `FDCT` and `IDCT` by the exact integer procedures of R112 and R116. -/

namespace Sys2Proof.Machine

/-- The column of a raster index (R14). -/
def col (i : Fin 64) : Fin 8 := ⟨i.val % 8, by omega⟩

/-- The row of a raster index (R14). -/
def row (i : Fin 64) : Fin 8 := ⟨i.val / 8, by omega⟩

/-- `K[k]`, `k` in 1..7: `cos(k*pi/16) * 2^255` rounded to the nearest integer (R112). -/
def cosK : Nat → Int
  | 1 => 0x7d8a5f3fdd72c0ab10b951b0fe95391762fa071fec78c570d8ccb990da47458e
  | 2 => 0x7641af3cca3518a2bf308118d60eb0c078541e9e686d74daedc4be11c2041ba3
  | 3 => 0x6a6d98a43a868c0cfb18745b6d641f345a348e97ccf64f55560472c53e69caa2
  | 4 => 0x5a827999fcef32422cbec4d9baa55f4f8eb7b05d449dd426768bd642c199cc8b
  | 5 => 0x471cece6b9a321b25dd267f65ffaa433be53eba4d6fdd19f654cb034614b7ebd
  | 6 => 0x30fbc54d5d52c5a34c48b0a967bf770ddef8fada559ef1261d1e0ac83138c7b9
  | 7 => 0x18f8b83c69a60ab64b991801c9f99b09f9ca72c6894b978e9ca1c3b3c4aa0a61
  | _ => 0

/-- `m` in 0..31 brought to 0..16: the cosine is even and has period `2*pi` (R112). -/
def foldAngle (m : Nat) : Nat := if 16 < m then 32 - m else m

/-- `A(u, x)`: `2^256 * (1/2) * C(u) * cos((2x+1)*u*pi/16)`, to within 1/2 (R112). -/
def basis (u x : Fin 8) : Int :=
  if u = 0 then cosK 4
  else
    let m := foldAngle ((2 * x.val + 1) * u.val % 32)
    if m ≤ 8 then cosK m else -cosK (16 - m)

/-- `N = 2^512` (R112). -/
def dctScale : Int := 2 ^ 256 * 2 ^ 256

/-- `HALF = 2^511` (R112). -/
def dctHalf : Int := 2 ^ 255 * 2 ^ 256

/-- `T = 2^322` (R112). -/
def dctTolerance : Int := 2 ^ 161 * 2 ^ 161

/-- `RoundExact` (R112): `acc / N` rounded to the nearest integer, an exact half away from zero. -/
def roundExact (acc : Int) : Int :=
  let m := acc / dctScale
  let rem := acc - m * dctScale
  if |rem - dctHalf| ≤ dctTolerance then (if 0 ≤ m then m + 1 else m)
  else if dctHalf < rem then m + 1 else m

/-- The sum over the 64 entries of a block. -/
def sum64 (f : Fin 64 → Int) : Int := ((List.finRange 64).map f).sum

/-- The accumulator of `FdctExact` for coefficient `i = 8*v + u` (R112). -/
def fdctAcc (s : Block) (i : Fin 64) : Int :=
  sum64 fun j => (s[j].toInt - 128) * basis (col i) (col j) * basis (row i) (row j)

/-- `FdctExact` (R112). -/
def fdctBlock (s : Block) : Block := Vector.ofFn fun i => BitVec.ofInt 16 (roundExact (fdctAcc s i))

/-- The accumulator of `IdctExact` for sample `i = 8*y + x` (R116). -/
def idctAcc (f : Block) (i : Fin 64) : Int :=
  128 * dctScale + sum64 fun j => f[j].toInt * basis (col j) (col i) * basis (row j) (row i)

/-- A sample clamped to 0..255 (R115). -/
def clampSample (v : Int) : Int := min 255 (max 0 v)

/-- `IdctExact` (R116). -/
def idctBlock (f : Block) : Block := Vector.ofFn fun i => BitVec.ofInt 16 (clampSample (roundExact (idctAcc f i)))

/-- `FDCT sd, ss` (R113). On an unwritten source the result and whether `DATA_RANGE` is raised are free (R283, U4). -/
def execFdct (d s : OpField) (st : State) : Host.Outcome State Fault Refusal :=
  .next <|
    if !(slotOk d && slotOk s) then st.complete .badOperand
    else if !st.slotWritten s then st.freeChoice (·.complete .dataRange) fun u => (u.setFreeSlot d).complete .none
    else if !samplesOk (st.slot s) then st.complete .dataRange
    else (st.setSlot d (fdctBlock (st.slot s))).complete .none

/-- `IDCT sd, ss` (R118). On an unwritten source the result is free (R283, U4). -/
def execIdct (d s : OpField) (st : State) : Host.Outcome State Fault Refusal :=
  .next <|
    if !(slotOk d && slotOk s) then st.complete .badOperand
    else if !st.slotWritten s then (st.setFreeSlot d).complete .none
    else (st.setSlot d (idctBlock (st.slot s))).complete .none

end Sys2Proof.Machine
end

