-- ==== Sys2Proof/Machine/Resample.lean ====
section
/-! DEFINITION. The Resampler (spec/42_resampler.md): `DOWNS` and `UPS`. -/

namespace Sys2Proof.Machine

/-- The downsampled sample at entry `i = 8*y + x`: the rounded mean of a 2x2 neighbourhood (R151). -/
def downSample (q : Vector Block 4) (i : Fin 64) : Int :=
  let x := (col i).val
  let y := (row i).val
  (superSample q ⟨2 * x, by omega⟩ ⟨2 * y, by omega⟩ + superSample q ⟨2 * x + 1, by omega⟩ ⟨2 * y, by omega⟩ +
    superSample q ⟨2 * x, by omega⟩ ⟨2 * y + 1, by omega⟩ + superSample q ⟨2 * x + 1, by omega⟩ ⟨2 * y + 1, by omega⟩ + 2) / 4

/-- The downsampled block (R151). -/
def downBlock (q : Vector Block 4) : Block := Vector.ofFn fun i => BitVec.ofInt 16 (downSample q i)

/-- The sample at column `x`, row `y` of a block (R14). -/
def blockSample (b : Block) (x y : Fin 8) : Int := (b[8 * y.val + x.val]).toInt

/-- The neighbour of source position `X >> 1` on the side of output position `X`, the edge replicated (R154). -/
def neighbour (X : Fin 16) : Fin 8 :=
  ⟨if X.val % 2 = 1 then min 7 (X.val / 2 + 1) else X.val / 2 - 1, by split <;> omega⟩

/-- The source position `X >> 1` (R154). -/
def halfPos (X : Fin 16) : Fin 8 := ⟨X.val / 2, by omega⟩

/-- `U(X, Y)`, the bilinear kernel at half-sample phase (R154). -/
def upSample (p : Block) (X Y : Fin 16) : Int :=
  (9 * blockSample p (halfPos X) (halfPos Y) + 3 * blockSample p (neighbour X) (halfPos Y) +
    3 * blockSample p (halfPos X) (neighbour Y) + blockSample p (neighbour X) (neighbour Y) + 8) / 16

/-- The upsampled super-block, quadrant `k` in slot `b + k` (R150, R155). -/
def upQuadrants (p : Block) : Vector Block 4 :=
  Vector.ofFn fun k => Vector.ofFn fun i =>
    BitVec.ofInt 16 (upSample p ⟨8 * (k.val % 2) + (col i).val, by omega⟩ ⟨8 * (k.val / 2) + (row i).val, by omega⟩)

/-- `DOWNS sd, sb` (R152). On an unwritten source the result and whether `DATA_RANGE` is raised are free (R283, U4). -/
def execDowns (d b : OpField) (st : State) : Host.Outcome State Fault Refusal :=
  .next <|
    if !(slotOk d && fourSlotsOk b) then st.complete .badOperand
    else if !st.quadrantsWritten b then st.freeChoice (·.complete .dataRange) fun u => (u.setFreeSlot d).complete .none
    else if !(st.quadrants b).toList.all samplesOk then st.complete .dataRange
    else (st.setSlot d (downBlock (st.quadrants b))).complete .none

/-- `UPS sb, ss` (R155). On an unwritten source the result and whether `DATA_RANGE` is raised are free (R283, U4). -/
def execUps (b s : OpField) (st : State) : Host.Outcome State Fault Refusal :=
  .next <|
    if !(fourSlotsOk b && slotOk s) then st.complete .badOperand
    else if !st.slotWritten s then st.freeChoice (·.complete .dataRange) fun u => (u.setFreeQuadrants b).complete .none
    else if !samplesOk (st.slot s) then st.complete .dataRange
    else (st.setQuadrants b (upQuadrants (st.slot s))).complete .none

end Sys2Proof.Machine
end

