-- ==== Sys2Proof/Machine/Dispatch.lean ====
section
/-! DEFINITION. One arm per command (spec/30_encoding.md R83): each is one call of its meaning. -/

namespace Sys2Proof.Machine

/-- The command-level transition of the engine (R10): from the state when the command runs to the state at its completion, or
to the state in which the engine holds a byte the sink stalled on. -/
def exec (i : Instr) (s : State) : Host.Outcome State Fault Refusal :=
  match i with
  | .fdct d a => Sys2Proof.Machine.execFdct d a s
  | .idct d a => Sys2Proof.Machine.execIdct d a s
  | .qbuild t a bsel q => Sys2Proof.Machine.execQbuild t a bsel q s
  | .qbuildp q => Sys2Proof.Machine.execQbuildp q s
  | .quant d a t => Sys2Proof.Machine.execQuant d a t s
  | .downs d b => Sys2Proof.Machine.execDowns d b s
  | .ups b a => Sys2Proof.Machine.execUps b a s
  | .encrst expl mode => Sys2Proof.Machine.execEncrst expl mode s
  | .encblk1 a => Sys2Proof.Machine.execEncblk1 a s
  | .encblk3 a b c => Sys2Proof.Machine.execEncblk3 a b c s
  | .encfin => Sys2Proof.Machine.execEncfin s

end Sys2Proof.Machine
end

