-- ==== Sys2Proof/Machine/Flags.lean ====
section
/-! DEFINITION. `STATUS`: the numbers of its fields, the word a read returns and the write-one-to-clear fields
(spec/10_state.md R25, R26), and the interrupt output (spec/60_exceptions.md R262). -/

namespace Sys2Proof.Machine

/-- The number of an error code (R250). -/
def ErrorCode.num : ErrorCode → BitVec 4
  | .none => 0
  | .illegalCmd => 1
  | .badOperand => 2
  | .sequencing => 3
  | .configuration => 4
  | .dataRange => 5
  | .io => 6

/-- The number of an encoder state (R36). -/
def EncState.num : EncState → BitVec 2
  | .uninit => 0
  | .ready => 1
  | .closed => 2
  | .error => 3

/-- The bit of a colour mode (R38). -/
def ColorMode.num : ColorMode → BitVec 1
  | .gray => 0
  | .ycc444 => 1

namespace State

/-- The word a read of `STATUS` returns, its fields from bit 31 down (R25). -/
def statusWord (s : State) : Word :=
  0#17 ++ s.encMode.num ++ s.encState.num ++ s.errcode.num ++ 0#2 ++ BitVec.ofBool s.incomplete ++
    BitVec.ofBool s.accConflict ++ BitVec.ofBool s.cmdOverrun ++ BitVec.ofBool s.err ++ BitVec.ofBool s.done ++
    BitVec.ofBool s.busy

/-- A write of `v` to `STATUS` clears each W1C field whose bit in `v` is 1 (R26). -/
def clearStatus (s : State) (v : Word) : State :=
  { s with
    done := s.done && !v.getLsbD 1
    err := s.err && !v.getLsbD 2
    cmdOverrun := s.cmdOverrun && !v.getLsbD 3
    accConflict := s.accConflict && !v.getLsbD 4 }

/-- The interrupt output `IRQ = CTRL.IE & STATUS.DONE` (R262). -/
def irq (s : State) : Bool := s.ctrlIE && s.done

end State
end Sys2Proof.Machine
end

