-- ==== Sys2Proof/Machine/Window.lean ====
section
/-! DEFINITION. The host window (spec/20_memory.md R60-R68): the map, what a read returns and what a write does, while the engine is
idle and while it is busy. -/

namespace Sys2Proof.Machine

/-- What an offset of the window names (R61). -/
inductive Location where
  | id
  | cfg
  | ctrl
  | status
  | cmd
  | width
  | height
  | mcuTotal
  | mcuCount
  | predDc0
  | predDc1
  | predDc2
  | bitstate
  | outCount
  | qt (t : Fin 2) (i : Fin 64)
  | slot (s : OpField) (i : Fin 64)
  | unmapped
deriving DecidableEq, Repr

/-- The registers below offset 0x100 (R61). -/
def registerAt : Nat → Location
  | 0x000 => .id
  | 0x004 => .cfg
  | 0x008 => .ctrl
  | 0x00C => .status
  | 0x010 => .cmd
  | 0x014 => .width
  | 0x018 => .height
  | 0x01C => .mcuTotal
  | 0x020 => .mcuCount
  | 0x024 => .predDc0
  | 0x028 => .predDc1
  | 0x02C => .predDc2
  | 0x030 => .bitstate
  | 0x034 => .outCount
  | _ => .unmapped

/-- The host window map (R61), for offsets that are multiples of 4. -/
def locate (off : Fin 8192) : Location :=
  if off.val < 0x100 then registerAt off.val
  else if off.val < 0x300 then .qt ⟨(off.val - 0x100) / 256 % 2, by omega⟩ ⟨off.val / 4 % 64, by omega⟩
  else if off.val < 0x1000 then .unmapped
  else
    let s : OpField := ⟨(off.val - 0x1000) / 256 % 16, by omega⟩
    if s.val < Config.nslots then .slot s ⟨off.val / 4 % 64, by omega⟩ else .unmapped

/-- `ID` (R22). -/
def idWord : Word := 0x44435438

/-- `CFG` (R23): `NSLOTS`, `DEFQ` and `HAS_IDCT`. -/
def cfgWord : Word := BitVec.ofNat 32 (Config.nslots + 256 * Config.defaultQuality + 65536)

namespace State

/-- `BITSTATE` (R43): the bits of `BITACC` at and above `BITCNT` read 0. -/
def bitstateWord (s : State) : Word :=
  0#21 ++ BitVec.ofNat 3 s.bitcnt.val ++ 0#1 ++ (s.bitacc &&& BitVec.ofNat 7 (2 ^ s.bitcnt.val - 1))

/-- The word at a location, read while the engine is idle (R22-R25, R28-R34, R41-R44, R63). -/
def readIdle (s : State) : Location → Word
  | .id => idWord
  | .cfg => cfgWord
  | .ctrl => (BitVec.ofBool s.ctrlIE).setWidth 32
  | .status => s.statusWord
  | .cmd => s.cmd
  | .width => s.width
  | .height => s.height
  | .mcuTotal => s.mcuTotal
  | .mcuCount => s.mcuCount
  | .predDc0 => s.pred0.signExtend 32
  | .predDc1 => s.pred1.signExtend 32
  | .predDc2 => s.pred2.signExtend 32
  | .bitstate => s.bitstateWord
  | .outCount => s.outCount
  | .qt t i => (s.qt[t][i]).setWidth 32
  | .slot n i => (s.slots[n][i]).signExtend 32
  | .unmapped => 0

/-- An access to this location conflicts with a running command (R68). -/
def conflicts : Location → Bool
  | .qt _ _ => true
  | .slot _ _ => true
  | _ => false

/-- A read of this location while busy returns an unspecified value (R68). -/
def freeWhileBusy (l : Location) : Bool :=
  conflicts l || l == .mcuCount || l == .predDc0 || l == .predDc1 || l == .predDc2 || l == .bitstate || l == .outCount

/-- A legal read (R63, R64, R68). -/
def hostRead (s : State) (l : Location) : State :=
  if s.busy && freeWhileBusy l then
    { s with busReply := .data (Config.freeWord s.draws), draws := s.draws + 1, accConflict := s.accConflict || conflicts l }
  else { s with busReply := .data (s.readIdle l) }

/-- What a write of `v` does to the block while the engine is idle (R24, R26, R28, R29, R31, R34, R63, R64). -/
def writeIdle (s : State) (l : Location) (v : Word) : State :=
  match l with
  | .ctrl => { s with ctrlIE := v.getLsbD 0 }
  | .status => s.clearStatus v
  | .cmd => s.accept v
  | .width => { s with width := v }
  | .height => { s with height := v }
  | .qt t i => { s with qt := s.qt.set t (s.qt[t].set i (v.setWidth 8)) }
  | .slot n i =>
      { s with slots := s.slots.set n (s.slots[n].set i (v.setWidth 16)), written := s.written.set n (s.written[n].set i true) }
  | _ => s

/-- A legal write (R68, R291, R292). -/
def hostWrite (s : State) (l : Location) (v : Word) : State :=
  let s := { s with busReply := .written }
  if s.busy && conflicts l then { s with accConflict := true }
  else if s.busy && l == .cmd then { s with cmdOverrun := true }
  else s.writeIdle l v

/-- One host access. One that is not a 32-bit access at a multiple of 4 gets a bus error and changes nothing else (R62). -/
def hostAccess (s : State) : HostAccess → State
  | .read off bytes =>
      if bytes = 4 ∧ off.val % 4 = 0 then s.hostRead (locate off) else { s with busReply := .busError }
  | .write off bytes v =>
      if bytes = 4 ∧ off.val % 4 = 0 then s.hostWrite (locate off) v else { s with busReply := .busError }

end State
end Sys2Proof.Machine
end

