-- ==== Sys2Proof/Machine/Turns.lean ====
section
/-! DEFINITION. What each agent's turn does (spec/00_scope.md R9, spec/20_memory.md R69), and how a command comes to stand where the
engine takes it. -/

namespace Sys2Proof.Machine.State

/-- The engine moves. An accepted word that is no command completes with `ILLEGAL_CMD` (R84, R85); a command runs; a byte the
sink stalled on is offered again (R72); an idle engine waits (R282). -/
def engineTurn (s : State) : Host.Outcome State Fault Refusal :=
  match s.engine with
  | .idle => .next s
  | .accepted =>
      match decode s.cmd with
      | .ok i => exec i s
      | .error _ => .next (s.complete .illegalCmd)
  | .offering b rest fin => .next (s.offer fin (b :: rest))

/-- The word a read of `STATUS` returned shows `BUSY` (R25). -/
def showsBusy (s : State) : Bool :=
  match s.busReply with
  | .data w => w.getLsbD 0
  | _ => false

/-- One turn of `WAIT` (R92, R290): the host reads `STATUS`; if it returns `BUSY = 1`, the engine moves and the host waits on. -/
def hostPoll (s : State) : State :=
  let t := s.hostAccess (.read 0x00C 4)
  if t.showsBusy then { t with turns := .engine :: .wait :: t.turns } else t

/-- One listed turn. In a `both` turn the host's access comes first, so that a flag the engine sets in the same step stays set
(R26, R263). -/
def takeTurn (s : State) : Turn → Host.Outcome State Fault Refusal
  | .engine => s.engineTurn
  | .host a => .next (s.hostAccess a)
  | .both a => (s.hostAccess a).engineTurn
  | .wait => .next s.hostPoll
  | .reset => .next s.powerOn
  | .freshSink => .next { s with sinkHolds := [] }

/-- One step: the first listed turn is taken off the list; where none is listed, the engine moves. -/
def nextTurn (s : State) : Host.Outcome State Fault Refusal :=
  match s.turns with
  | [] => s.engineTurn
  | t :: rest => ({ s with turns := rest } : State).takeTurn t

/-- The command word `w` has just been accepted and the engine moves next: the state after the host's write of `CMD`, with the
engine's turn put before the turns already listed. -/
def placeCommand (s : State) (w : Word) : State := { s.accept w with turns := .engine :: s.turns }

end Sys2Proof.Machine.State
end

