-- ==== Sys2Proof/Machine/Step.lean ====
section
/-! DEFINITION. One step of the machine. -/

namespace Sys2Proof.Machine

/-- One step: one turn of the host, the engine or the platform. -/
def step (s : State) : Host.Outcome State Fault Refusal := s.nextTurn

/-- `s` with the command word of `nbits` bits `w` placed where the next step takes its command. -/
def State.withFetchWord (s : State) (nbits w : Nat) : State := s.placeCommand (BitVec.ofNat 32 (w % 2 ^ nbits))

end Sys2Proof.Machine
end

