-- ==== Sys2Proof/Machine/Program.lean ====
section
/-! DEFINITION. The host actions that the spec's programs use beside commands (spec/30_encoding.md R92), as turns of the host. They are
no commands: each is a sequence of window accesses. -/

namespace Sys2Proof.Machine

/-- `WR off, v`. -/
def hostWr (off : Fin 8192) (v : Word) : Turn := .host (.write off 4 v)

/-- `RD off`. -/
def hostRd (off : Fin 8192) : Turn := .host (.read off 4)

/-- `LDS ss, [v0..v63]`: the 64 entries of slot `s`, in increasing order. -/
def hostLds (s : OpField) (v : Vector Word 64) : List Turn :=
  (List.finRange 64).map fun i => hostWr ⟨0x1000 + 256 * s.val + 4 * i.val, by omega⟩ v[i]

/-- `LDQ tt, [v0..v63]`: the 64 entries of table `t`. -/
def hostLdq (t : Fin 2) (v : Vector Word 64) : List Turn :=
  (List.finRange 64).map fun i => hostWr ⟨0x100 * (t.val + 1) + 4 * i.val, by omega⟩ v[i]

/-- `DIM w, h`. -/
def hostDim (w h : Word) : List Turn := [hostWr 0x014 w, hostWr 0x018 h]

/-- `CLR`: the four sticky flags. -/
def hostClr : Turn := hostWr 0x00C 0x1E

/-- `WAIT`: the host reads `STATUS` until it returns `BUSY = 0` (R290), however many reads that takes. -/
def hostWait : Turn := .wait

/-- A command of a program: the write of its word to `CMD`, then `WAIT`. -/
def hostCommand (i : Instr) : List Turn := [hostWr 0x010 (encode i), hostWait]

end Sys2Proof.Machine
end

