-- ==== Sys2Proof/Safety.lean ====
section
/-! DEFINITION. What a safe run is, and the terms claims use: the session's invariant, which registers belong to the session,
the ROM contents as the rules list them, and the bits a byte sequence carries. -/

namespace Sys2Proof.Machine

/-- A safe run: the machine never stops. -/
def NeverStops (s : State) : Prop := ∀ n, ∃ t, Host.Core.run Sys2Proof.core n s = .next t

/-- An encoder command (R83, R193). -/
def IsEncoder : Instr → Bool
  | .encrst _ _ => true
  | .encblk1 _ => true
  | .encblk3 _ _ _ => true
  | .encfin => true
  | _ => false

/-- A block of samples (R30). -/
abbrev Samples (b : Block) : Prop := ∀ i : Fin 64, 0 ≤ b[i].toInt ∧ b[i].toInt ≤ 255

namespace State

/-- The factors the session divides by are legal (R40). -/
def tablesLegal (s : State) : Prop :=
  (∀ i : Fin 64, s.sqt[0][i] ≠ 0) ∧ (s.encMode = .ycc444 → ∀ i : Fin 64, s.sqt[1][i] ≠ 0)

/-- A bit buffer holds no bit at or above its count (R43). -/
def bitsLegal (acc : BitVec 7) (cnt : Fin 8) : Prop := acc.toNat < 2 ^ cnt.val

/-- What holds of an open session (R40, R41, R43). -/
structure OpenInv (s : State) : Prop where
  tables : s.tablesLegal
  total  : s.mcuTotal.toNat ≤ 2 ^ 26
  count  : s.mcuCount.toNat ≤ s.mcuTotal.toNat
  bits   : bitsLegal s.bitacc s.bitcnt

/-- What holds while the engine holds a byte, so that the session is legal once the command completes. -/
def holdInv (s : State) : Engine → Prop
  | .offering _ _ .openSession => s.OpenInv
  | .offering _ _ (.codeBlocks _ _ _ acc cnt) =>
      s.encState = .ready ∧ s.mcuCount.toNat < s.mcuTotal.toNat ∧ bitsLegal acc cnt
  | .offering _ _ .closeSession => s.encState = .ready
  | _ => True

/-- The session's invariant. -/
structure SessionInv (s : State) : Prop where
  isOpen  : s.encState = .ready → s.OpenInv
  holding : s.holdInv s.engine

/-- `s` with the session of `u`: the registers R193 names, and the stream. -/
def withSessionOf (s u : State) : State :=
  { s with
    encState := u.encState, encMode := u.encMode, incomplete := u.incomplete, sqt := u.sqt, pred0 := u.pred0,
    pred1 := u.pred1, pred2 := u.pred2, bitacc := u.bitacc, bitcnt := u.bitcnt, mcuTotal := u.mcuTotal,
    mcuCount := u.mcuCount, outCount := u.outCount, stream := u.stream, sinkHolds := u.sinkHolds }

end State

/-! ## A whole session (spec/43_encoder.md R194) -/

/-- The commands run one after the other, each to its completion without error; `none` where one does not get there in one
engine turn. -/
def runAll : List Instr → State → Option State
  | [], s => some s
  | i :: is, s =>
      match exec i s with
      | .next t => if t.engine = .idle ∧ t.errcode = .none then runAll is t else none
      | _ => none

/-- The `PutBits` calls of one component block with its predictor (R176, R177). -/
def componentCodes (c : CodeClass) (t : Table) (pred : Int) (b : Block) : List Bits :=
  encodeDC ((zigzag b t)[0] - pred) c ++ encodeAC (zigzag b t).toList.tail c

/-- The `PutBits` calls of the scan of a Gray image, block by block (R180, R183). -/
def grayScan (sqt : Vector Table 2) (pred : Int) : List Block → List Bits
  | [] => []
  | b :: bs => componentCodes .luma sqt[0] pred b ++ grayScan sqt (zigzag b sqt[0])[0] bs

/-- The `PutBits` calls of the scan of a YCbCr444 image, MCU by MCU (R183, R185). -/
def colourScan (sqt : Vector Table 2) (predY predB predR : Int) : List (Block × Block × Block) → List Bits
  | [] => []
  | (y, b, r) :: rest =>
      componentCodes .luma sqt[0] predY y ++ componentCodes .chroma sqt[1] predB b ++ componentCodes .chroma sqt[1] predR r ++
        colourScan sqt (zigzag y sqt[0])[0] (zigzag b sqt[1])[0] (zigzag r sqt[1])[0] rest

/-- The entropy-coded bytes of a scan, the pad byte included (R223-R225). -/
def scanBytes (codes : List Bits) : List Byte :=
  let p := codes.foldl Packer.putBits { acc := 0, cnt := 0, out := [] }
  p.out ++ flushBytes p.acc p.cnt

/-! ## The ROM contents as the rules list them (spec/41_quantization.md R130, spec/44_bitstream.md R217-R220) -/

/-- A listed code: its binary digits after a leading 1. -/
def listedCode (c : Nat) : Bits := { value := c - 2 ^ Nat.log2 c, n := Nat.log2 c }

/-- `BASE_L` row by row (R130). -/
def listedBaseL : List Nat :=
  [16, 11, 10, 16, 24, 40, 51, 61] ++
  [12, 12, 14, 19, 26, 58, 60, 55] ++
  [14, 13, 16, 24, 40, 57, 69, 56] ++
  [14, 17, 22, 29, 51, 87, 80, 62] ++
  [18, 22, 37, 56, 68, 109, 103, 77] ++
  [24, 35, 55, 64, 81, 104, 113, 92] ++
  [49, 64, 78, 87, 103, 121, 120, 101] ++
  [72, 92, 95, 98, 112, 100, 103, 99]

/-- `BASE_C` row by row (R130). -/
def listedBaseC : List Nat :=
  [17, 18, 24, 47, 99, 99, 99, 99] ++
  [18, 21, 26, 66, 99, 99, 99, 99] ++
  [24, 26, 56, 99, 99, 99, 99, 99] ++
  [47, 66, 99, 99, 99, 99, 99, 99] ++
  [99, 99, 99, 99, 99, 99, 99, 99] ++
  [99, 99, 99, 99, 99, 99, 99, 99] ++
  [99, 99, 99, 99, 99, 99, 99, 99] ++
  [99, 99, 99, 99, 99, 99, 99, 99]

/-- The codes of `DC_L` by category (R217). -/
def dcLumaListing : List Nat :=
  [0b1_00, 0b1_010, 0b1_011, 0b1_100, 0b1_101, 0b1_110, 0b1_1110, 0b1_11110, 0b1_111110, 0b1_1111110, 0b1_11111110,
    0b1_111111110]

/-- The codes of `DC_C` by category (R219). -/
def dcChromaListing : List Nat :=
  [0b1_00, 0b1_01, 0b1_10, 0b1_110, 0b1_1110, 0b1_11110, 0b1_111110, 0b1_1111110, 0b1_11111110, 0b1_111111110,
    0b1_1111111110, 0b1_11111111110]

/-- The codes of `AC_L`: row the run, column the size, 0 where there is no such symbol (R218). -/
def acLumaListing : List (List Nat) :=
  [[0b1_1010, 0b1_00, 0b1_01, 0b1_100, 0b1_1011, 0b1_11010, 0b1_1111000, 0b1_11111000, 0b1_1111110110, 0b1_1111111110000010,
    0b1_1111111110000011]] ++
  [[0, 0b1_1100, 0b1_11011, 0b1_1111001, 0b1_111110110, 0b1_11111110110, 0b1_1111111110000100, 0b1_1111111110000101,
    0b1_1111111110000110, 0b1_1111111110000111, 0b1_1111111110001000]] ++
  [[0, 0b1_11100, 0b1_11111001, 0b1_1111110111, 0b1_111111110100, 0b1_1111111110001001, 0b1_1111111110001010,
    0b1_1111111110001011, 0b1_1111111110001100, 0b1_1111111110001101, 0b1_1111111110001110]] ++
  [[0, 0b1_111010, 0b1_111110111, 0b1_111111110101, 0b1_1111111110001111, 0b1_1111111110010000, 0b1_1111111110010001,
    0b1_1111111110010010, 0b1_1111111110010011, 0b1_1111111110010100, 0b1_1111111110010101]] ++
  [[0, 0b1_111011, 0b1_1111111000, 0b1_1111111110010110, 0b1_1111111110010111, 0b1_1111111110011000, 0b1_1111111110011001,
    0b1_1111111110011010, 0b1_1111111110011011, 0b1_1111111110011100, 0b1_1111111110011101]] ++
  [[0, 0b1_1111010, 0b1_11111110111, 0b1_1111111110011110, 0b1_1111111110011111, 0b1_1111111110100000, 0b1_1111111110100001,
    0b1_1111111110100010, 0b1_1111111110100011, 0b1_1111111110100100, 0b1_1111111110100101]] ++
  [[0, 0b1_1111011, 0b1_111111110110, 0b1_1111111110100110, 0b1_1111111110100111, 0b1_1111111110101000, 0b1_1111111110101001,
    0b1_1111111110101010, 0b1_1111111110101011, 0b1_1111111110101100, 0b1_1111111110101101]] ++
  [[0, 0b1_11111010, 0b1_111111110111, 0b1_1111111110101110, 0b1_1111111110101111, 0b1_1111111110110000,
    0b1_1111111110110001, 0b1_1111111110110010, 0b1_1111111110110011, 0b1_1111111110110100, 0b1_1111111110110101]] ++
  [[0, 0b1_111111000, 0b1_111111111000000, 0b1_1111111110110110, 0b1_1111111110110111, 0b1_1111111110111000,
    0b1_1111111110111001, 0b1_1111111110111010, 0b1_1111111110111011, 0b1_1111111110111100, 0b1_1111111110111101]] ++
  [[0, 0b1_111111001, 0b1_1111111110111110, 0b1_1111111110111111, 0b1_1111111111000000, 0b1_1111111111000001,
    0b1_1111111111000010, 0b1_1111111111000011, 0b1_1111111111000100, 0b1_1111111111000101, 0b1_1111111111000110]] ++
  [[0, 0b1_111111010, 0b1_1111111111000111, 0b1_1111111111001000, 0b1_1111111111001001, 0b1_1111111111001010,
    0b1_1111111111001011, 0b1_1111111111001100, 0b1_1111111111001101, 0b1_1111111111001110, 0b1_1111111111001111]] ++
  [[0, 0b1_1111111001, 0b1_1111111111010000, 0b1_1111111111010001, 0b1_1111111111010010, 0b1_1111111111010011,
    0b1_1111111111010100, 0b1_1111111111010101, 0b1_1111111111010110, 0b1_1111111111010111, 0b1_1111111111011000]] ++
  [[0, 0b1_1111111010, 0b1_1111111111011001, 0b1_1111111111011010, 0b1_1111111111011011, 0b1_1111111111011100,
    0b1_1111111111011101, 0b1_1111111111011110, 0b1_1111111111011111, 0b1_1111111111100000, 0b1_1111111111100001]] ++
  [[0, 0b1_11111111000, 0b1_1111111111100010, 0b1_1111111111100011, 0b1_1111111111100100, 0b1_1111111111100101,
    0b1_1111111111100110, 0b1_1111111111100111, 0b1_1111111111101000, 0b1_1111111111101001, 0b1_1111111111101010]] ++
  [[0, 0b1_1111111111101011, 0b1_1111111111101100, 0b1_1111111111101101, 0b1_1111111111101110, 0b1_1111111111101111,
    0b1_1111111111110000, 0b1_1111111111110001, 0b1_1111111111110010, 0b1_1111111111110011, 0b1_1111111111110100]] ++
  [[0b1_11111111001, 0b1_1111111111110101, 0b1_1111111111110110, 0b1_1111111111110111, 0b1_1111111111111000,
    0b1_1111111111111001, 0b1_1111111111111010, 0b1_1111111111111011, 0b1_1111111111111100, 0b1_1111111111111101,
    0b1_1111111111111110]]

/-- The codes of `AC_C`: row the run, column the size, 0 where there is no such symbol (R220). -/
def acChromaListing : List (List Nat) :=
  [[0b1_00, 0b1_01, 0b1_100, 0b1_1010, 0b1_11000, 0b1_11001, 0b1_111000, 0b1_1111000, 0b1_111110100, 0b1_1111110110,
    0b1_111111110100]] ++
  [[0, 0b1_1011, 0b1_111001, 0b1_11110110, 0b1_111110101, 0b1_11111110110, 0b1_111111110101, 0b1_1111111110001000,
    0b1_1111111110001001, 0b1_1111111110001010, 0b1_1111111110001011]] ++
  [[0, 0b1_11010, 0b1_11110111, 0b1_1111110111, 0b1_111111110110, 0b1_111111111000010, 0b1_1111111110001100,
    0b1_1111111110001101, 0b1_1111111110001110, 0b1_1111111110001111, 0b1_1111111110010000]] ++
  [[0, 0b1_11011, 0b1_11111000, 0b1_1111111000, 0b1_111111110111, 0b1_1111111110010001, 0b1_1111111110010010,
    0b1_1111111110010011, 0b1_1111111110010100, 0b1_1111111110010101, 0b1_1111111110010110]] ++
  [[0, 0b1_111010, 0b1_111110110, 0b1_1111111110010111, 0b1_1111111110011000, 0b1_1111111110011001, 0b1_1111111110011010,
    0b1_1111111110011011, 0b1_1111111110011100, 0b1_1111111110011101, 0b1_1111111110011110]] ++
  [[0, 0b1_111011, 0b1_1111111001, 0b1_1111111110011111, 0b1_1111111110100000, 0b1_1111111110100001, 0b1_1111111110100010,
    0b1_1111111110100011, 0b1_1111111110100100, 0b1_1111111110100101, 0b1_1111111110100110]] ++
  [[0, 0b1_1111001, 0b1_11111110111, 0b1_1111111110100111, 0b1_1111111110101000, 0b1_1111111110101001, 0b1_1111111110101010,
    0b1_1111111110101011, 0b1_1111111110101100, 0b1_1111111110101101, 0b1_1111111110101110]] ++
  [[0, 0b1_1111010, 0b1_11111111000, 0b1_1111111110101111, 0b1_1111111110110000, 0b1_1111111110110001, 0b1_1111111110110010,
    0b1_1111111110110011, 0b1_1111111110110100, 0b1_1111111110110101, 0b1_1111111110110110]] ++
  [[0, 0b1_11111001, 0b1_1111111110110111, 0b1_1111111110111000, 0b1_1111111110111001, 0b1_1111111110111010,
    0b1_1111111110111011, 0b1_1111111110111100, 0b1_1111111110111101, 0b1_1111111110111110, 0b1_1111111110111111]] ++
  [[0, 0b1_111110111, 0b1_1111111111000000, 0b1_1111111111000001, 0b1_1111111111000010, 0b1_1111111111000011,
    0b1_1111111111000100, 0b1_1111111111000101, 0b1_1111111111000110, 0b1_1111111111000111, 0b1_1111111111001000]] ++
  [[0, 0b1_111111000, 0b1_1111111111001001, 0b1_1111111111001010, 0b1_1111111111001011, 0b1_1111111111001100,
    0b1_1111111111001101, 0b1_1111111111001110, 0b1_1111111111001111, 0b1_1111111111010000, 0b1_1111111111010001]] ++
  [[0, 0b1_111111001, 0b1_1111111111010010, 0b1_1111111111010011, 0b1_1111111111010100, 0b1_1111111111010101,
    0b1_1111111111010110, 0b1_1111111111010111, 0b1_1111111111011000, 0b1_1111111111011001, 0b1_1111111111011010]] ++
  [[0, 0b1_111111010, 0b1_1111111111011011, 0b1_1111111111011100, 0b1_1111111111011101, 0b1_1111111111011110,
    0b1_1111111111011111, 0b1_1111111111100000, 0b1_1111111111100001, 0b1_1111111111100010, 0b1_1111111111100011]] ++
  [[0, 0b1_11111111001, 0b1_1111111111100100, 0b1_1111111111100101, 0b1_1111111111100110, 0b1_1111111111100111,
    0b1_1111111111101000, 0b1_1111111111101001, 0b1_1111111111101010, 0b1_1111111111101011, 0b1_1111111111101100]] ++
  [[0, 0b1_11111111100000, 0b1_1111111111101101, 0b1_1111111111101110, 0b1_1111111111101111, 0b1_1111111111110000,
    0b1_1111111111110001, 0b1_1111111111110010, 0b1_1111111111110011, 0b1_1111111111110100, 0b1_1111111111110101]] ++
  [[0b1_1111111010, 0b1_111111111000011, 0b1_1111111111110110, 0b1_1111111111110111, 0b1_1111111111111000,
    0b1_1111111111111001, 0b1_1111111111111010, 0b1_1111111111111011, 0b1_1111111111111100, 0b1_1111111111111101,
    0b1_1111111111111110]]

/-! ## The bits of a byte sequence -/

/-- The bits of a byte, most significant first. -/
def byteBits (b : Byte) : List Bool := (List.range 8).reverse.map fun j => b.getLsbD j

/-- The pending bits of a bit buffer, earliest first (R43). -/
def pendingBits (acc : BitVec 7) (cnt : Fin 8) : List Bool := (List.range cnt.val).reverse.map fun j => acc.getLsbD j

/-- Entropy-coded bytes without the zero byte that follows each `0xFF` (R224). -/
def unstuffed : List Byte → List Byte
  | [] => []
  | [b] => [b]
  | b :: c :: rest => if b = 0xFF ∧ c = 0x00 then b :: unstuffed rest else b :: unstuffed (c :: rest)

end Sys2Proof.Machine
end

