-- ==== Sys2Proof/Certificates/Slice0/Obligations.lean ====
section
/-! DEFINITION. The statements for the provers, each about the machine and for every state or operand its rule speaks of. -/

open Sys2Proof Sys2Proof.Machine

/-! ## Encoding (spec/30_encoding.md) -/

/-- The encodings of the syntax table (R91): every form, with every operand, is the word the table gives; its examples; and words
written out from the table and from the programs of spec/95_test_vectors.md decode to their commands. -/
def Obligations.EncodingsMatchSyntaxTable : Prop :=
  (∀ d s : OpField, encode (.fdct d s) = 0x01000000#32 ||| BitVec.ofNat 32 d.val <<< 20 ||| BitVec.ofNat 32 s.val <<< 16) ∧
  (∀ d s : OpField, encode (.idct d s) = 0x02000000#32 ||| BitVec.ofNat 32 d.val <<< 20 ||| BitVec.ofNat 32 s.val <<< 16) ∧
  (∀ (t : OpField) (q : Imm),
    encode (.qbuild t 0 0 q) = 0x03000000#32 ||| BitVec.ofNat 32 t.val <<< 20 ||| 0#32 <<< 12 ||| BitVec.ofNat 32 q.val) ∧
  (∀ (t : OpField) (q : Imm),
    encode (.qbuild t 0 1 q) = 0x03000000#32 ||| BitVec.ofNat 32 t.val <<< 20 ||| 1#32 <<< 12 ||| BitVec.ofNat 32 q.val) ∧
  (∀ (t s : OpField) (q : Imm),
    encode (.qbuild t s 2 q) = 0x03000000#32 ||| BitVec.ofNat 32 t.val <<< 20 ||| BitVec.ofNat 32 s.val <<< 16 |||
      2#32 <<< 12 ||| BitVec.ofNat 32 q.val) ∧
  (∀ q : Imm, encode (.qbuildp q) = 0x04000000#32 ||| BitVec.ofNat 32 q.val) ∧
  (∀ d s t : OpField, encode (.quant d s t) = 0x05000000#32 ||| BitVec.ofNat 32 d.val <<< 20 ||| BitVec.ofNat 32 s.val <<< 16 |||
    BitVec.ofNat 32 t.val <<< 12) ∧
  (∀ d b : OpField, encode (.downs d b) = 0x06000000#32 ||| BitVec.ofNat 32 d.val <<< 20 ||| BitVec.ofNat 32 b.val <<< 16) ∧
  (∀ b s : OpField, encode (.ups b s) = 0x07000000#32 ||| BitVec.ofNat 32 b.val <<< 20 ||| BitVec.ofNat 32 s.val <<< 16) ∧
  encode (.encrst false 0) = 0x08000000#32 ∧ encode (.encrst true 0) = 0x08000004#32 ∧
  encode (.encrst false 1) = 0x08000001#32 ∧ encode (.encrst true 1) = 0x08000005#32 ∧
  (∀ s : OpField, encode (.encblk1 s) = 0x09000000#32 ||| BitVec.ofNat 32 s.val <<< 16) ∧
  (∀ a b c : OpField, encode (.encblk3 a b c) = 0x0A000000#32 ||| BitVec.ofNat 32 a.val <<< 16 ||| BitVec.ofNat 32 b.val <<< 12 |||
    BitVec.ofNat 32 c.val <<< 8) ∧
  encode .encfin = 0x0B000000#32 ∧
  encode (.fdct 1 0) = 0x01100000#32 ∧ encode (.quant 2 1 0) = 0x05210000#32 ∧ encode (.encblk3 3 4 5) = 0x0A034500#32 ∧
  decode 0x01100000#32 = .ok (.fdct 1 0) ∧ decode 0x02310000#32 = .ok (.idct 3 1) ∧
  decode 0x0300004B#32 = .ok (.qbuild 0 0 0 75) ∧ decode 0x03071032#32 = .ok (.qbuild 0 7 1 50) ∧
  decode 0x04000032#32 = .ok (.qbuildp 50) ∧ decode 0x05210000#32 = .ok (.quant 2 1 0) ∧
  decode 0x060D0000#32 = .ok (.downs 0 13) ∧ decode 0x07800000#32 = .ok (.ups 8 0) ∧
  decode 0x08000005#32 = .ok (.encrst true 1) ∧ decode 0x09010000#32 = .ok (.encblk1 1) ∧
  decode 0x0A001200#32 = .ok (.encblk3 0 1 2) ∧ decode 0x0B000000#32 = .ok .encfin

/-- Every command is read back from its word, with every operand at every value its field admits. -/
def Obligations.DecodeEncodeAgree : Prop := ∀ i : Instr, decode (encode i) = .ok i

/-- Every word the decoder takes is the word of the command it reads: no bit of a command word is dropped (R88, R90). -/
def Obligations.EncodeDecodeAgree : Prop := ∀ (w : Word) (i : Instr), decode w = .ok i → encode i = w

/-- R84: an accepted word with a reserved opcode completes at once with `ILLEGAL_CMD` and changes no other state. -/
def Obligations.ReservedOpcodesAreIllegal : Prop :=
  ∀ (s : State), s.engine = .accepted → (s.cmd.extractLsb' 24 8 = 0 ∨ 0x0C ≤ (s.cmd.extractLsb' 24 8).toNat) →
    s.engineTurn = .next { s with errcode := .illegalCmd, err := true, done := true, engine := .idle }

/-- R85: an accepted word with an assigned opcode and a non-zero reserved field completes with `ILLEGAL_CMD` and changes no other
state. The reserved bits of each opcode are those its format marks `0` in R81, and `IMM[7:3]` of `ENCRST`. -/
def Obligations.ReservedFieldsAreIllegal : Prop :=
  let reserved : Nat → Word := fun op =>
    if op = 0x01 ∨ op = 0x02 ∨ op = 0x06 ∨ op = 0x07 then 0x0000FFFF
    else if op = 0x03 then 0x00000F00
    else if op = 0x04 then 0x00FFFF00
    else if op = 0x05 then 0x00000FFF
    else if op = 0x08 then 0x00FFFFF8
    else if op = 0x09 then 0x00F0FFFF
    else if op = 0x0A then 0x00F000FF
    else 0x00FFFFFF
  ∀ (s : State), s.engine = .accepted → 1 ≤ (s.cmd.extractLsb' 24 8).toNat → (s.cmd.extractLsb' 24 8).toNat ≤ 0x0B →
    s.cmd &&& reserved (s.cmd.extractLsb' 24 8).toNat ≠ 0 →
    s.engineTurn = .next { s with errcode := .illegalCmd, err := true, done := true, engine := .idle }

/-- R86: the operand ranges. A command with an operand out of range completes with `BAD_OPERAND` and changes no other state; no other
command completes with that code, so every 4-bit one-slot operand is in range. -/
def Obligations.BadOperandsComplete : Prop :=
  let bad : Instr → Prop := fun i => match i with
    | .qbuild t _ bsel _ => 1 < t.val ∨ 2 < bsel.val
    | .quant _ _ t => 1 < t.val
    | .downs _ b => 16 ≤ b.val + 3
    | .ups b _ => 16 ≤ b.val + 3
    | _ => False
  ∀ (i : Instr) (s : State),
    (i.wellFormed = false ↔ bad i) ∧
    (bad i → exec i s = .next { s with errcode := .badOperand, err := true, done := true, engine := .idle }) ∧
    (¬ bad i → ∀ t, exec i s = .next t → t.engine = .idle → t.errcode ≠ .badOperand)

/-! ## The step -/

/-- A step in which the engine moves runs the command that stands in `CMD`: the step is `exec` of the decoded command, after the
turn has been taken off the list. Nothing else happens around it: there is no program counter to move (R16). A command word
placed for the next step is run by the next step, in the state right after the host's write of `CMD` was accepted (R28, R170). -/
def Obligations.StepRunsDecodedCommand : Prop :=
  (∀ (s : State) (i : Instr), s.engine = .accepted → decode s.cmd = .ok i →
    (s.turns = [] → step s = exec i s) ∧ (∀ rest, s.turns = .engine :: rest → step s = exec i { s with turns := rest })) ∧
  (∀ (s : State) (nbits w : Nat) (i : Instr), decodeTableWord nbits w = some i →
    step (s.withFetchWord nbits w) =
      exec i { s with cmd := BitVec.ofNat 32 (w % 2 ^ nbits), engine := .accepted, sampledWidth := s.width, sampledHeight := s.height })

/-- No state stops the machine: every command word has one defined result, and every host access an answer. An illegal access is
answered by a bus error (R62, R271); that the model goes on after it, where R62 lets a model refuse, is the model's choice (log
entry 7). -/
def Obligations.EveryRunGoesOn : Prop := ∀ s : State, NeverStops s

/-- `WAIT` (R92, R290): a turn of it reads `STATUS` and changes nothing else of the block; it is over when the word shows
`BUSY = 0`, and while the word shows `BUSY = 1` one move of the engine and a further read follow (the one move between two reads is
the model's choice, log entry 28). A command of a program (R92), the write of its word to `CMD` and then `WAIT`, on an idle engine:
the command runs once, and the last read is of the status it completed with. -/
def Obligations.WaitReadsUntilIdle : Prop :=
  (∀ (s : State) (rest : List Turn), s.turns = hostWait :: rest →
    ∃ w : Word, (s.hostAccess (.read 0x00C 4)).busReply = .data w ∧ w.getLsbD 0 = s.busy ∧
      step s = .next { s with busReply := .data w, turns := if w.getLsbD 0 then .engine :: hostWait :: rest else rest }) ∧
  (∀ (i : Instr) (s u : State) (rest : List Turn), s.busy = false → s.turns = hostCommand i ++ rest →
    let a : State := { s with
      cmd := encode i, engine := .accepted, sampledWidth := s.width, sampledHeight := s.height, turns := hostWait :: rest }
    exec i { a with busReply := .data a.statusWord } = .next u → u.engine = .idle →
    Host.Core.run Sys2Proof.core 4 s = .next { u with busReply := .data u.statusWord, turns := rest })

/-! ## Reset (spec/70_reset_and_hazards.md) -/

/-- R280, R281: the registers after reset, as the window shows them; and the reset input, at any time, brings these values, without a
completion of a running command, and leaves in the sink what the sink holds. The block buffer is unspecified again: no entry of it
counts as written (R283, in the model's field `written`, log entry 27). The stream is empty (log entry 14). -/
def Obligations.ResetFromAnyState : Prop :=
  let values : State → Prop := fun s =>
    s.readIdle (locate 0x000) = 0x44435438 ∧ s.readIdle (locate 0x004) = 0x00014B10 ∧ s.readIdle (locate 0x008) = 0 ∧
    s.readIdle (locate 0x00C) = 0 ∧ s.readIdle (locate 0x010) = 0 ∧ s.readIdle (locate 0x014) = 0 ∧
    s.readIdle (locate 0x018) = 0 ∧ s.readIdle (locate 0x01C) = 0 ∧ s.readIdle (locate 0x020) = 0 ∧
    s.readIdle (locate 0x024) = 0 ∧ s.readIdle (locate 0x028) = 0 ∧ s.readIdle (locate 0x02C) = 0 ∧
    s.readIdle (locate 0x030) = 0 ∧ s.readIdle (locate 0x034) = 0 ∧ s.busy = false ∧ s.done = false ∧ s.encState = .uninit ∧
    s.irq = false ∧ s.stream = [] ∧ ∀ n : OpField, s.slotWritten n = false ∧ ∀ i : Fin 64, s.written[n][i] = false
  values State.reset ∧
  ∀ (s : State) (rest : List Turn), s.turns = .reset :: rest →
    ∃ t, step s = .next t ∧ values t ∧ t.sinkHolds = s.sinkHolds ∧ t.turns = rest

/-! ## The host window (spec/20_memory.md, spec/10_state.md) -/

/-- R62, R271: an access that is not 32 bits wide at a multiple of 4 is answered by a bus error and changes no state. -/
def Obligations.IllegalAccessesChangeNothing : Prop :=
  ∀ (s : State) (off : Fin 8192) (bytes : Nat) (v : Word), ¬ (bytes = 4 ∧ off.val % 4 = 0) →
    s.hostAccess (.read off bytes) = { s with busReply := .busError } ∧
    s.hostAccess (.write off bytes v) = { s with busReply := .busError }

/-- R63: a legal access to an unmapped offset reads 0, a write to one is ignored, and neither sets a flag. R64: a write to a
read-only register is ignored and sets no flag, and a read while the engine is idle changes nothing. And the word such a read
returns, register by register (R22-R24, R28, R29, R41-R44). That `BITSTATE` reads 0 at and above `BITCNT` in every idle state, also
after an `IO` error of a block command or `ENCFIN`, where R188 and R190 call it unspecified, is the model's choice (log entry 11). -/
def Obligations.InertAccesses : Prop :=
  (∀ (s : State) (off : Fin 8192) (v : Word), off.val % 4 = 0 →
    (0x038 ≤ off.val ∧ off.val < 0x100 ∨ 0x300 ≤ off.val ∧ off.val < 0x1000) →
    s.hostAccess (.read off 4) = { s with busReply := .data 0 } ∧
    s.hostAccess (.write off 4 v) = { s with busReply := .written }) ∧
  (∀ (s : State) (off : Fin 8192) (v : Word),
    (off.val = 0x000 ∨ off.val = 0x004 ∨ off.val % 4 = 0 ∧ 0x01C ≤ off.val ∧ off.val ≤ 0x034) →
    s.hostAccess (.write off 4 v) = { s with busReply := .written }) ∧
  (∀ (s : State) (off : Fin 8192), off.val % 4 = 0 → s.busy = false →
    s.hostAccess (.read off 4) = { s with busReply := .data (s.readIdle (locate off)) }) ∧
  (∀ s : State, s.busy = false →
    let reads : Fin 8192 → Word → Prop := fun off w => s.hostAccess (.read off 4) = { s with busReply := .data w }
    reads 0x000 0x44435438 ∧ reads 0x004 0x00014B10 ∧ reads 0x008 (if s.ctrlIE then 1 else 0) ∧ reads 0x010 s.cmd ∧
    reads 0x014 s.width ∧ reads 0x018 s.height ∧ reads 0x01C s.mcuTotal ∧ reads 0x020 s.mcuCount ∧
    (∃ w, reads 0x024 w ∧ w.toInt = s.pred0.toInt) ∧ (∃ w, reads 0x028 w ∧ w.toInt = s.pred1.toInt) ∧
    (∃ w, reads 0x02C w ∧ w.toInt = s.pred2.toInt) ∧
    (∃ w, reads 0x030 w ∧ (∀ j, j < 7 → w.getLsbD j = (decide (j < s.bitcnt.val) && s.bitacc.getLsbD j)) ∧
      w.getLsbD 7 = false ∧ (w.extractLsb' 8 3).toNat = s.bitcnt.val ∧ w.extractLsb' 11 21 = 0) ∧
    reads 0x034 s.outCount)

/-- R31, R34: entry `i` of slot `n` is at offset `0x1000 + 256*n + 4*i` and `QT[n][i]` at `0x100*(n+1) + 4*i`; while the engine is
idle a write stores the low 16 or 8 bits there, a read returns the entry sign-extended or zero-extended, and every other legal
offset reads as before. Such a write marks its entry as written (R283, log entry 27) and changes nothing else; and `LDS` and `LDQ` (R92),
64 such writes, fill the slot and mark all of it, or fill the table, and change nothing else. -/
def Obligations.EntriesHoldWrites : Prop :=
  (∀ (s : State) (n : OpField) (i : Fin 64) (v : Word), s.busy = false →
    let off : Fin 8192 := ⟨0x1000 + 256 * n.val + 4 * i.val, by omega⟩
    let t := s.hostAccess (.write off 4 v)
    (t.hostAccess (.read off 4)).busReply = .data ((v.setWidth 16).signExtend 32) ∧
    ∀ off' : Fin 8192, off'.val % 4 = 0 → off' ≠ off →
      (t.hostAccess (.read off' 4)).busReply = (s.hostAccess (.read off' 4)).busReply) ∧
  (∀ (s : State) (n : Fin 2) (i : Fin 64) (v : Word), s.busy = false →
    let off : Fin 8192 := ⟨0x100 * (n.val + 1) + 4 * i.val, by omega⟩
    let t := s.hostAccess (.write off 4 v)
    (t.hostAccess (.read off 4)).busReply = .data ((v.setWidth 8).setWidth 32) ∧
    ∀ off' : Fin 8192, off'.val % 4 = 0 → off' ≠ off →
      (t.hostAccess (.read off' 4)).busReply = (s.hostAccess (.read off' 4)).busReply) ∧
  (∀ (s : State) (n : OpField) (i : Fin 64) (v : Word), s.busy = false →
    s.hostAccess (.write ⟨0x1000 + 256 * n.val + 4 * i.val, by omega⟩ 4 v) = { s with
      busReply := .written
      slots := s.slots.set n (s.slots[n].set i (v.setWidth 16)), written := s.written.set n (s.written[n].set i true) }) ∧
  (∀ (s : State) (n : Fin 2) (i : Fin 64) (v : Word), s.busy = false →
    s.hostAccess (.write ⟨0x100 * (n.val + 1) + 4 * i.val, by omega⟩ 4 v) = { s with
      busReply := .written, qt := s.qt.set n (s.qt[n].set i (v.setWidth 8)) }) ∧
  (∀ (s : State) (n : OpField) (v : Vector Word 64) (rest : List Turn), s.busy = false → s.turns = hostLds n v ++ rest →
    ∃ t, Host.Core.run Sys2Proof.core 64 s = .next t ∧ t.slotWritten n = true ∧
      t = { s with
        busReply := .written, turns := rest, slots := s.slots.set n (Vector.ofFn fun i => v[i].setWidth 16)
        written := s.written.set n (Vector.replicate 64 true) }) ∧
  (∀ (s : State) (n : Fin 2) (v : Vector Word 64) (rest : List Turn), s.busy = false → s.turns = hostLdq n v ++ rest →
    Host.Core.run Sys2Proof.core 64 s = .next { s with
      busReply := .written, turns := rest, qt := s.qt.set n (Vector.ofFn fun i => v[i].setWidth 8) })

/-- R25: the fields of the word a read of `STATUS` returns. -/
def Obligations.StatusWordFields : Prop :=
  ∀ (s : State), ∃ w, (s.hostAccess (.read 0x00C 4)).busReply = .data w ∧
    (w.getLsbD 0 = true ↔ s.engine ≠ .idle) ∧ w.getLsbD 1 = s.done ∧ w.getLsbD 2 = s.err ∧ w.getLsbD 3 = s.cmdOverrun ∧
    w.getLsbD 4 = s.accConflict ∧ w.getLsbD 5 = s.incomplete ∧ w.extractLsb' 6 2 = 0 ∧
    (w.extractLsb' 8 4).toNat = (match s.errcode with
      | .none => 0 | .illegalCmd => 1 | .badOperand => 2 | .sequencing => 3 | .configuration => 4 | .dataRange => 5 | .io => 6) ∧
    (w.extractLsb' 12 2).toNat = (match s.encState with | .uninit => 0 | .ready => 1 | .closed => 2 | .error => 3) ∧
    (w.getLsbD 14 = true ↔ s.encMode = .ycc444) ∧ w.extractLsb' 15 17 = 0

/-- R26: a write to `STATUS` clears each W1C field whose bit is 1 and leaves the rest; and when the engine completes a command in
the same step, what it sets stays set. -/
def Obligations.StatusWriteClearsFlags : Prop :=
  (∀ (s : State) (v : Word),
    s.hostAccess (.write 0x00C 4 v) = { s with
      busReply := .written, done := if v.getLsbD 1 then false else s.done, err := if v.getLsbD 2 then false else s.err,
      cmdOverrun := if v.getLsbD 3 then false else s.cmdOverrun,
      accConflict := if v.getLsbD 4 then false else s.accConflict }) ∧
  (∀ (s t : State) (v : Word) (rest : List Turn), s.turns = .both (.write 0x00C 4 v) :: rest → s.engine ≠ .idle →
    step s = .next t → t.engine = .idle → t.done = true ∧ (t.errcode ≠ .none → t.err = true))

/-- R28: a `CMD` write to an idle engine is accepted: `BUSY` is set, the word is recorded, and the image dimensions are sampled
(R170). R291: one to a busy engine is dropped and only sets `CMD_OVERRUN`. -/
def Obligations.CmdWriteIssuesOrOverruns : Prop :=
  ∀ (s : State) (w : Word),
    (s.busy = false → ∃ t, s.hostAccess (.write 0x010 4 w) = t ∧ t.busy = true ∧ t.readIdle (locate 0x010) = w ∧
      t = { s with busReply := .written, cmd := w, engine := .accepted, sampledWidth := s.width, sampledHeight := s.height }) ∧
    (s.busy = true → s.hostAccess (.write 0x010 4 w) = { s with busReply := .written, cmdOverrun := true })

/-- R68: what a legal access does while a command runs. R68's list of accesses that act as while idle does not name a read of `CMD`:
that it returns the last accepted word is R28 (and log entry 9). And in every state, busy or idle, a write of `WIDTH` or `HEIGHT`
stores the word (R29), and one of `CTRL` stores its bit 0 and ignores the reserved bits (R24). -/
def Obligations.BusyAccesses : Prop :=
  (∀ s : State, s.busy = true →
    (∀ off : Fin 8192, off.val % 4 = 0 → (0x100 ≤ off.val ∧ off.val < 0x300 ∨ 0x1000 ≤ off.val) →
      (∀ v, s.hostAccess (.write off 4 v) = { s with busReply := .written, accConflict := true }) ∧
      s.hostAccess (.read off 4) =
        { s with busReply := .data (Config.freeWord s.draws), draws := s.draws + 1, accConflict := true }) ∧
    (∀ off : Fin 8192, off.val % 4 = 0 → 0x020 ≤ off.val → off.val ≤ 0x034 →
      s.hostAccess (.read off 4) = { s with busReply := .data (Config.freeWord s.draws), draws := s.draws + 1 }) ∧
    (∀ v, s.hostAccess (.write 0x010 4 v) = { s with busReply := .written, cmdOverrun := true }) ∧
    (∀ off : Fin 8192, off.val % 4 = 0 → off.val < 0x01C ∨ 0x038 ≤ off.val ∧ off.val < 0x100 ∨ 0x300 ≤ off.val ∧ off.val < 0x1000 →
      s.hostAccess (.read off 4) = { s with busReply := .data (s.readIdle (locate off)) })) ∧
  (∀ (s : State) (v : Word),
    s.hostAccess (.write 0x014 4 v) = { s with busReply := .written, width := v } ∧
    s.hostAccess (.write 0x018 4 v) = { s with busReply := .written, height := v } ∧
    s.hostAccess (.write 0x008 4 v) = { s with busReply := .written, ctrlIE := v.getLsbD 0 })

/-- R262: the interrupt stays asserted until the host writes `STATUS` or `CTRL`, or the block is reset; and it is exactly
`IE` and `DONE`. -/
def Obligations.InterruptHeldUntilCleared : Prop :=
  (∀ s : State, s.irq = true ↔ s.readIdle (locate 0x008) = 1 ∧ s.statusWord.getLsbD 1 = true) ∧
  ∀ (s t : State), s.irq = true → step s = .next t → t.irq = false →
    ∃ rest, s.turns = .reset :: rest ∨
      ∃ off v, (off = 0x008 ∨ off = 0x00C) ∧ (s.turns = .host (.write off 4 v) :: rest ∨ s.turns = .both (.write off 4 v) :: rest)

/-! ## Completion and errors (spec/60_exceptions.md) -/

/-- R260, R251: a command either completes, with the status R260 gives and a code R251 lists for it, or holds a byte the sink
stalled on, with the status of the command before it (R294). -/
def Obligations.CommandsCompleteOrHold : Prop :=
  (∀ (i : Instr) (s : State), ∃ t, exec i s = .next t ∧
    (t.engine = .idle ∧ t.done = true ∧ t.err = (s.err || t.errcode != .none) ∨
     (∃ b rest fin, t.engine = .offering b rest fin) ∧ t.done = s.done ∧ t.err = s.err ∧ t.errcode = s.errcode)) ∧
  (∀ (i : Instr) (s t : State), exec i s = .next t → t.engine = .idle →
    t.errcode ∈ (match i with
      | .fdct _ _ => [ErrorCode.none, .badOperand, .dataRange]
      | .idct _ _ => [.none, .badOperand]
      | .qbuild _ _ _ _ => [.none, .badOperand, .configuration]
      | .qbuildp _ => [.none, .configuration]
      | .quant _ _ _ => [.none, .badOperand, .configuration]
      | .downs _ _ => [.none, .badOperand, .dataRange]
      | .ups _ _ => [.none, .badOperand, .dataRange]
      | .encrst _ _ => [.none, .configuration, .io]
      | .encblk1 _ => [.none, .sequencing, .configuration, .dataRange, .io]
      | .encblk3 _ _ _ => [.none, .sequencing, .configuration, .dataRange, .io]
      | .encfin => [.none, .io]))

/-- R253: an error with code 1 to 5 writes nothing but the completion status; an encoder command also enters `ERROR` with codes 3
to 5, and `ENCRST` clears `INCOMPLETE`. (The model's counter `draws` moves where the error was a free choice, log entry 27.) -/
def Obligations.ErrorsWriteNothing : Prop :=
  ∀ (i : Instr) (s t : State), exec i s = .next t → t.engine = .idle → t.errcode ≠ .none → t.errcode ≠ .io →
    t = { s with
      errcode := t.errcode, err := true, done := true, engine := .idle
      encState := if IsEncoder i = true ∧ t.errcode ≠ .badOperand then .error else s.encState
      incomplete := if (∃ expl mode, i = .encrst expl mode) then false else s.incomplete
      draws := t.draws }

/-- R193: the other commands and their errors neither change nor read the session, and emit nothing. -/
def Obligations.SessionUntouchedByOtherCommands : Prop :=
  ∀ (i : Instr) (s u : State), IsEncoder i = false → ∃ t, exec i s = .next t ∧
    t = t.withSessionOf s ∧ exec i (s.withSessionOf u) = .next (t.withSessionOf u)

/-- R37: how each command moves `ENC_STATE` when it completes, by its code. That it does not move while a byte is held is the model's
reading of the pseudocode (log entry 12). -/
def Obligations.EncoderStateTransitions : Prop :=
  ∀ (i : Instr) (s t : State), exec i s = .next t →
    (t.engine ≠ .idle → t.encState = s.encState) ∧
    (t.engine = .idle →
      (IsEncoder i = false → t.encState = s.encState) ∧
      (t.errcode = .badOperand → t.encState = s.encState) ∧
      ((∃ expl mode, i = .encrst expl mode) → t.encState = if t.errcode = .none then .ready else .error) ∧
      ((∃ a, i = .encblk1 a) ∨ (∃ a b c, i = .encblk3 a b c) →
        (t.errcode = .none → s.encState = .ready ∧ t.encState = .ready) ∧
        (t.errcode ≠ .none → t.errcode ≠ .badOperand → t.encState = .error)) ∧
      (i = .encfin → (t.errcode = .none → t.encState = .closed) ∧
        (t.errcode ≠ .none → s.encState = .ready ∧ t.encState = .error)))

/-! ## The Transform Engine (spec/40_transform.md) -/

/-- `FDCT` (R112, R113): on a slot that has been written (R283) and holds samples it completes, its destination holds the rounded double sums of R112, computed from the
source as it was, and nothing else changes. -/
def Obligations.FdctComputes : Prop :=
  ∀ (d s : OpField) (st : State), st.slotWritten s = true → Samples st.slots[s] →
    exec (.fdct d s) st = .next { st with
      written := st.written.set d (Vector.replicate 64 true)
      slots := st.slots.set d (Vector.ofFn fun i => BitVec.ofInt 16 (roundExact
        (∑ y : Fin 8, ∑ x : Fin 8, ((st.slots[s][8 * y.val + x.val]).toInt - 128) * basis (col i) x * basis (row i) y)))
      errcode := .none, done := true, engine := .idle }

/-- `IDCT` (R116, R118): on every slot that has been written (R283) it completes, its destination holds the rounded and clamped double sums of R116, and
nothing else changes. -/
def Obligations.IdctComputes : Prop :=
  ∀ (d s : OpField) (st : State), st.slotWritten s = true →
    exec (.idct d s) st = .next { st with
      written := st.written.set d (Vector.replicate 64 true)
      slots := st.slots.set d (Vector.ofFn fun i => BitVec.ofInt 16 (min 255 (max 0 (roundExact (128 * dctScale +
        ∑ v : Fin 8, ∑ u : Fin 8, (st.slots[s][8 * v.val + u.val]).toInt * basis u (col i) * basis v (row i))))))
      errcode := .none, done := true, engine := .idle }

/-- R114: the range of the forward result; it fits the slot entry, and the categories the encoder can meet. -/
def Obligations.FdctResultRange : Prop :=
  ∀ b : Block, Samples b →
    let F := fun i => roundExact (fdctAcc b i)
    (-1024 ≤ F 0 ∧ F 0 ≤ 1016) ∧ (∀ i, i ≠ 0 → |F i| ≤ 1020 ∧ category (F i) ≤ 10) ∧
    (∀ i : Fin 64, ((fdctBlock b)[i]).toInt = F i) ∧
    (∀ b' : Block, Samples b' → category (F 0 - roundExact (fdctAcc b' 0)) ≤ 11)

/-- Exact halves go away from zero (R110, R111, R115): a block mirrored at 128 has the negated coefficients; a forward coefficient
whose basis has no irrational factor, `u` and `v` in 0 and 4, is the integer sum over 8 rounded so; and so is the inverse transform of a block with
entries only there, before its clamp. -/
def Obligations.TransformsRoundHalvesAway : Prop :=
  let σ : Fin 8 → Fin 8 → Int := fun u x => if u = 0 then 1 else if x = 0 ∨ x = 3 ∨ x = 4 ∨ x = 7 then 1 else -1
  (∀ b b' : Block, Samples b → Samples b' → (∀ i : Fin 64, b'[i].toInt - 128 = -(b[i].toInt - 128)) →
    ∀ i : Fin 64, ((fdctBlock b')[i]).toInt = -((fdctBlock b)[i]).toInt) ∧
  (∀ b : Block, Samples b → ∀ u v : Fin 8, u = 0 ∨ u = 4 → v = 0 ∨ v = 4 → ∀ i : Fin 64, i.val = 8 * v.val + u.val →
    let S : Int := ∑ y : Fin 8, ∑ x : Fin 8, ((b[8 * y.val + x.val]).toInt - 128) * σ u x * σ v y
    ((fdctBlock b)[i]).toInt = Int.sign S * ((S.natAbs + 4) / 8 : Nat)) ∧
  (∀ b : Block, (∀ i : Fin 64, i ≠ 0 → i ≠ 4 → i ≠ 32 → i ≠ 36 → b[i] = 0) →
    ∀ x y : Fin 8, ∀ i : Fin 64, i.val = 8 * y.val + x.val →
    let S : Int := 1024 + b[0].toInt + b[4].toInt * σ 4 x + b[32].toInt * σ 4 y + b[36].toInt * σ 4 x * σ 4 y
    roundExact (idctAcc b i) = Int.sign S * ((S.natAbs + 4) / 8 : Nat) ∧
    ((idctBlock b)[i]).toInt = max (0 : Int) (min 255 (Int.sign S * ((S.natAbs + 4) / 8 : Nat))))

/-- R112: each constant is `cos(k*pi/16) * 2^255` rounded to the nearest integer. -/
def Obligations.CosineConstantsRounded : Prop :=
  ∀ k : Nat, 1 ≤ k → k ≤ 7 → |(cosK k : ℝ) - Real.cos (k * Real.pi / 16) * 2 ^ 255| ≤ 1 / 2

/-- The forward result is near the real transform of R110: within a half of it, and `2^-180` more for the error of the fixed-point
evaluation (R112). Which neighbour an exact half takes is not stated here. -/
def Obligations.FdctNearRealTransform : Prop :=
  let C : Fin 8 → ℝ := fun k => if k = 0 then 1 / √2 else 1
  ∀ b : Block, Samples b → ∀ u v : Fin 8, ∀ i : Fin 64, i.val = 8 * v.val + u.val →
    |(((fdctBlock b)[i]).toInt : ℝ) - 1 / 4 * C u * C v *
      ∑ y : Fin 8, ∑ x : Fin 8, ((b[8 * y.val + x.val].toInt : ℝ) - 128) *
        Real.cos ((2 * x.val + 1) * u.val * Real.pi / 16) * Real.cos ((2 * y.val + 1) * v.val * Real.pi / 16)|
      ≤ 1 / 2 + 1 / 2 ^ 180

/-- The inverse result before the clamp is near the real transform of R115: within a half of it, and `2^-180` more for the error of
the fixed-point evaluation (R116). Which neighbour an exact half takes is not stated here. -/
def Obligations.IdctNearRealTransform : Prop :=
  let C : Fin 8 → ℝ := fun k => if k = 0 then 1 / √2 else 1
  ∀ b : Block, ∀ x y : Fin 8, ∀ i : Fin 64, i.val = 8 * y.val + x.val →
    |((roundExact (idctAcc b i) : ℤ) : ℝ) - (128 + 1 / 4 *
      ∑ v : Fin 8, ∑ u : Fin 8, C u * C v * (b[8 * v.val + u.val].toInt : ℝ) *
        Real.cos ((2 * x.val + 1) * u.val * Real.pi / 16) * Real.cos ((2 * y.val + 1) * v.val * Real.pi / 16))|
      ≤ 1 / 2 + 1 / 2 ^ 180

/-! ## The Quantization Builder and the quantizer (spec/41_quantization.md) -/

/-- `QBUILD` (R132, R133), for each base selector, and `QBUILDP` (R134): with a legal quality (and a base slot that has been written,
R283) the command completes, its table or tables hold the scaled entries, and nothing else changes. `RS1` does not matter where
`BSEL` is 0 or 1 (R90). And the two ROM tables hold the entries R130 lists. -/
def Obligations.TableBuildersCompute : Prop :=
  (∀ (t : Fin 2) (s : OpField) (bsel : Fin 3) (q : Imm) (st : State), 1 ≤ q.val → q.val ≤ 100 →
    (bsel = 2 → st.slotWritten s = true ∧ ∀ i : Fin 64, 1 ≤ (st.slots[s][i]).toInt ∧ (st.slots[s][i]).toInt ≤ 255) →
    exec (.qbuild ⟨t.val, by omega⟩ s ⟨bsel.val, by omega⟩ q) st = .next { st with
      qt := st.qt.set t (Vector.ofFn fun i =>
        let base := if bsel = 0 then baseL[i] else if bsel = 1 then baseC[i] else (st.slots[s][i]).toInt.toNat
        let scale := if q.val < 50 then 5000 / q.val else 200 - 2 * q.val
        BitVec.ofNat 8 (min 255 (max 1 ((base * scale + 50) / 100))))
      errcode := .none, done := true, engine := .idle }) ∧
  (∀ (q : Imm) (st : State), 1 ≤ q.val → q.val ≤ 100 →
    let scale := if q.val < 50 then 5000 / q.val else 200 - 2 * q.val
    exec (.qbuildp q) st = .next { st with
      qt := #v[Vector.ofFn fun i => BitVec.ofNat 8 (min 255 (max 1 ((baseL[i] * scale + 50) / 100))),
               Vector.ofFn fun i => BitVec.ofNat 8 (min 255 (max 1 ((baseC[i] * scale + 50) / 100)))]
      errcode := .none, done := true, engine := .idle }) ∧
  baseL.toList = listedBaseL ∧ baseC.toList = listedBaseC

/-- The errors the data of a command can raise: `CONFIGURATION` for an illegal quality, a slot base entry outside 1..255 or a factor
0 (R131, R133, R134, R137); `DATA_RANGE` for a source entry that is no sample (R113, R152, R155), the slots having been written (R283). Nothing else changes. -/
def Obligations.OperandDataErrors : Prop :=
  let E : State → State := fun st => { st with errcode := .configuration, err := true, done := true, engine := .idle }
  (∀ (t : Fin 2) (s : OpField) (bsel : Fin 3) (q : Imm) (st : State), q.val = 0 ∨ 100 < q.val →
    exec (.qbuild ⟨t.val, by omega⟩ s ⟨bsel.val, by omega⟩ q) st = .next (E st)) ∧
  (∀ (t : Fin 2) (s : OpField) (q : Imm) (st : State), st.slotWritten s = true →
    (∃ i : Fin 64, (st.slots[s][i]).toInt < 1 ∨ 255 < (st.slots[s][i]).toInt) →
    exec (.qbuild ⟨t.val, by omega⟩ s 2 q) st = .next (E st)) ∧
  (∀ (q : Imm) (st : State), q.val = 0 ∨ 100 < q.val → exec (.qbuildp q) st = .next (E st)) ∧
  (∀ (d s : OpField) (t : Fin 2) (st : State), (∃ i : Fin 64, st.qt[t][i] = 0) →
    exec (.quant d s ⟨t.val, by omega⟩) st = .next (E st)) ∧
  (∀ (d s : OpField) (st : State), st.slotWritten s = true → ¬ Samples st.slots[s] →
    exec (.fdct d s) st = .next { st with errcode := .dataRange, err := true, done := true, engine := .idle }) ∧
  (∀ (b : Fin 13) (s : OpField) (st : State), st.slotWritten s = true → ¬ Samples st.slots[s] →
    exec (.ups ⟨b.val, by omega⟩ s) st = .next { st with errcode := .dataRange, err := true, done := true, engine := .idle }) ∧
  (∀ (d : OpField) (b : Fin 13) (st : State), (∀ k : Fin 4, st.slotWritten ⟨b.val + k.val, by omega⟩ = true) →
    (∃ k : Fin 4, ¬ Samples (st.slots[b.val + k.val]'(by omega))) →
    exec (.downs d ⟨b.val, by omega⟩) st = .next { st with errcode := .dataRange, err := true, done := true, engine := .idle })

/-- R135: the properties (a) to (d) of the scaling law. -/
def Obligations.ScalingLawProperties : Prop :=
  (∀ base q, 1 ≤ base → base ≤ 255 → 1 ≤ q → q ≤ 100 → 1 ≤ tableEntry base q ∧ tableEntry base q ≤ 255) ∧
  (∀ base q, 1 ≤ base → base ≤ 255 → 1 ≤ q → q < 100 → tableEntry base (q + 1) ≤ tableEntry base q) ∧
  (∀ base, 1 ≤ base → base ≤ 255 → tableEntry base 100 = 1) ∧
  (∀ B : Vector Nat 64, (∀ i : Fin 64, 1 ≤ B[i] ∧ B[i] ≤ 255) →
    ((∀ i : Fin 64, tableEntry B[i] 1 = 255) ↔ ∀ i : Fin 64, 6 ≤ B[i])) ∧
  (∀ i : Fin 64, tableEntry baseL[i] 1 = 255 ∧ tableEntry baseC[i] 1 = 255)

/-- R136: the quantizer rounds to the nearest integer, halves away from zero; no half can occur for an odd factor; the result is
at most 32768 in magnitude and fits the slot entry. -/
def Obligations.QuantizerRoundsHalfAway : Prop :=
  (∀ (c : Int) (f : Nat), -32768 ≤ c → c ≤ 32767 → 1 ≤ f → f ≤ 255 →
    quantize c f = Int.sign c * ((c.natAbs + f >>> 1) / f : Nat) ∧
    quantize c f = Int.sign c * ⌊|(c : ℚ)| / f + 1 / 2⌋ ∧
    (f % 2 = 1 → ∀ k : Nat, 2 * c.natAbs ≠ (2 * k + 1) * f) ∧
    (∀ k : Nat, f % 2 = 0 → c.natAbs = k * f + f / 2 → |quantize c f| = k + 1) ∧
    |quantize c f| ≤ 32768 ∧ (BitVec.ofInt 16 (quantize c f)).toInt = quantize c f) ∧
  quantize (-32768) 1 = -32768 ∧ quantize 32767 1 = 32767

/-- `QUANT` (R136, R137): with no factor 0, on a slot that has been written (R283), it completes, the destination holds the quantized block, nothing else changes. -/
def Obligations.QuantComputes : Prop :=
  ∀ (d s : OpField) (t : Fin 2) (st : State), st.slotWritten s = true → (∀ i : Fin 64, st.qt[t][i] ≠ 0) →
    exec (.quant d s ⟨t.val, by omega⟩) st = .next { st with
      written := st.written.set d (Vector.replicate 64 true)
      slots := st.slots.set d (Vector.ofFn fun i =>
        let c := (st.slots[s][i]).toInt
        let f := (st.qt[t][i]).toNat
        BitVec.ofInt 16 (Int.sign c * ((c.natAbs + f / 2) / f : Nat)))
      errcode := .none, done := true, engine := .idle }

/-! ## The Resampler (spec/42_resampler.md) -/

/-- `DOWNS` (R150-R152): on written slots (R283) that hold samples it completes, the destination holds the rounded means of the 2x2 neighbourhoods of the
super-block as it was, nothing else changes. -/
def Obligations.DownsComputes : Prop :=
  ∀ (d : OpField) (b : Fin 13) (st : State), (∀ k : Fin 4, st.slotWritten ⟨b.val + k.val, by omega⟩ = true) →
    (∀ k : Fin 4, Samples (st.slots[b.val + k.val]'(by omega))) →
    let P : Fin 16 → Fin 16 → Int := fun X Y =>
      ((st.slots[b.val + (2 * (Y.val / 8) + X.val / 8)]'(by omega))[8 * (Y.val % 8) + X.val % 8]'(by omega)).toInt
    exec (.downs d ⟨b.val, by omega⟩) st = .next { st with
      written := st.written.set d (Vector.replicate 64 true)
      slots := st.slots.set d (Vector.ofFn fun i =>
        let x := i.val % 8
        let y := i.val / 8
        BitVec.ofInt 16 ((P ⟨2 * x, by omega⟩ ⟨2 * y, by omega⟩ + P ⟨2 * x + 1, by omega⟩ ⟨2 * y, by omega⟩ +
          P ⟨2 * x, by omega⟩ ⟨2 * y + 1, by omega⟩ + P ⟨2 * x + 1, by omega⟩ ⟨2 * y + 1, by omega⟩ + 2) / 4))
      errcode := .none, done := true, engine := .idle }

/-- `UPS` (R150, R154, R155): on a written slot (R283) that holds samples it completes, the four destination slots hold the bilinear super-block of the source as
it was, nothing else changes. -/
def Obligations.UpsComputes : Prop :=
  ∀ (b : Fin 13) (s : OpField) (st : State), st.slotWritten s = true → Samples st.slots[s] →
    let p : Fin 8 → Fin 8 → Int := fun x y => (st.slots[s][8 * y.val + x.val]).toInt
    let near : Fin 16 → Fin 8 := fun X => ⟨X.val / 2, by omega⟩
    let next : Fin 16 → Fin 8 := fun X => ⟨if X.val % 2 = 1 then min 7 (X.val / 2 + 1) else X.val / 2 - 1, by split <;> omega⟩
    let U : Fin 16 → Fin 16 → Int := fun X Y =>
      (9 * p (near X) (near Y) + 3 * p (next X) (near Y) + 3 * p (near X) (next Y) + 1 * p (next X) (next Y) + 8) / 16
    exec (.ups ⟨b.val, by omega⟩ s) st = .next { st with
      written := Vector.ofFn fun n => if b.val ≤ n.val ∧ n.val ≤ b.val + 3 then Vector.replicate 64 true else st.written[n]
      slots := Vector.ofFn fun n =>
        if b.val ≤ n.val ∧ n.val ≤ b.val + 3 then
          let k := n.val - b.val
          Vector.ofFn fun i => BitVec.ofInt 16
            (U ⟨(8 * (k % 2) + i.val % 8) % 16, by omega⟩ ⟨(8 * (k / 2) + i.val / 8) % 16, by omega⟩)
        else st.slots[n]
      errcode := .none, done := true, engine := .idle }

/-- R153: the downsampler keeps a constant, is within the stated distance of each mean and of the mean of all, and is monotone.
R156, in part: the upsampler's outputs lie between the least and the greatest source sample at distance at most 1 in each direction
(R156 says: of its four inputs), so it keeps a constant. -/
def Obligations.ResamplerProperties : Prop :=
  let nb : Vector Block 4 → Fin 64 → Int := fun q i =>
    superSample q ⟨2 * (i.val % 8), by omega⟩ ⟨2 * (i.val / 8), by omega⟩ +
    superSample q ⟨2 * (i.val % 8) + 1, by omega⟩ ⟨2 * (i.val / 8), by omega⟩ +
    superSample q ⟨2 * (i.val % 8), by omega⟩ ⟨2 * (i.val / 8) + 1, by omega⟩ +
    superSample q ⟨2 * (i.val % 8) + 1, by omega⟩ ⟨2 * (i.val / 8) + 1, by omega⟩
  (∀ q : Vector Block 4, (∀ k : Fin 4, Samples q[k]) →
    Samples (downBlock q) ∧
    (∀ c : Int, (∀ X Y, superSample q X Y = c) → ∀ i : Fin 64, ((downBlock q)[i]).toInt = c) ∧
    (∀ i : Fin 64, 4 * ((downBlock q)[i]).toInt - nb q i ∈ [(-1 : Int), 0, 1, 2]) ∧
    |4 * ∑ i : Fin 64, ((downBlock q)[i]).toInt - ∑ X : Fin 16, ∑ Y : Fin 16, superSample q X Y| ≤ 128 ∧
    (∀ q' : Vector Block 4, (∀ k : Fin 4, Samples q'[k]) → (∀ X Y, superSample q X Y ≤ superSample q' X Y) →
      ∀ i : Fin 64, ((downBlock q)[i]).toInt ≤ ((downBlock q')[i]).toInt)) ∧
  (∀ p : Block, Samples p →
    (∀ k : Fin 4, Samples (upQuadrants p)[k]) ∧
    ∀ (X Y : Fin 16) (lo hi : Int),
      (∀ x y : Fin 8, ((x.val : Int) - X.val / 2).natAbs ≤ 1 → ((y.val : Int) - Y.val / 2).natAbs ≤ 1 →
        lo ≤ (p[8 * y.val + x.val]).toInt ∧ (p[8 * y.val + x.val]).toInt ≤ hi) →
      lo ≤ superSample (upQuadrants p) X Y ∧ superSample (upQuadrants p) X Y ≤ hi)

/-! ## Frames of the block-buffer and table commands -/

/-- `FDCT`, `IDCT`, `QUANT`, `DOWNS`, `UPS`, `QBUILD`, `QBUILDP`: every word of the window outside the slot, the four slots, the
table or the two tables the command writes, and outside `STATUS`, reads as before; and so do the interrupt enable, the session's
tables (D50), what the sink holds, and the flags a completion does not write. -/
def Obligations.BufferCommandsFrame : Prop :=
  ∀ (i : Instr) (s t : State) (lo hi : Nat),
    ((∃ d a, i = .fdct d a ∧ lo = 0x1000 + 256 * d.val ∧ hi = lo + 256) ∨
     (∃ d a, i = .idct d a ∧ lo = 0x1000 + 256 * d.val ∧ hi = lo + 256) ∨
     (∃ d a n, i = .quant d a n ∧ lo = 0x1000 + 256 * d.val ∧ hi = lo + 256) ∨
     (∃ d b, i = .downs d b ∧ lo = 0x1000 + 256 * d.val ∧ hi = lo + 256) ∨
     (∃ b a, i = .ups b a ∧ lo = 0x1000 + 256 * b.val ∧ hi = lo + 1024) ∨
     (∃ n a bsel q, i = .qbuild n a bsel q ∧ lo = 0x100 * (n.val + 1) ∧ hi = lo + 256) ∨
     (∃ q, i = .qbuildp q ∧ lo = 0x100 ∧ hi = 0x300)) → exec i s = .next t →
    (∀ off : Fin 8192, off.val ≠ 0x00C → ¬ (lo ≤ off.val ∧ off.val < hi) → t.readIdle (locate off) = s.readIdle (locate off)) ∧
    t.ctrlIE = s.ctrlIE ∧ t.cmdOverrun = s.cmdOverrun ∧ t.accConflict = s.accConflict ∧ t.incomplete = s.incomplete ∧
    t.encState = s.encState ∧ t.encMode = s.encMode ∧ t.sqt = s.sqt ∧ t.sinkHolds = s.sinkHolds

/-- The encoder commands change no word of the block buffer or of the table RAM, and none of `ID`, `CFG`, `CTRL`, `CMD`, `WIDTH`,
`HEIGHT`; a block command and `ENCFIN` change neither the session's tables nor its mode nor `MCU_TOTAL`, `ENCFIN` no predictor and
not `MCU_COUNT`, and a block command not `INCOMPLETE`. -/
def Obligations.EncoderCommandsFrame : Prop :=
  ∀ (i : Instr) (s t : State), IsEncoder i = true → exec i s = .next t →
    (∀ off : Fin 8192, off.val ≠ 0x00C → (off.val < 0x01C ∨ 0x038 ≤ off.val) →
      t.readIdle (locate off) = s.readIdle (locate off)) ∧
    t.cmdOverrun = s.cmdOverrun ∧ t.accConflict = s.accConflict ∧
    ((∀ expl mode, i ≠ .encrst expl mode) → t.sqt = s.sqt ∧ t.encMode = s.encMode ∧ t.mcuTotal = s.mcuTotal ∧
      (i = .encfin → t.pred0 = s.pred0 ∧ t.pred1 = s.pred1 ∧ t.pred2 = s.pred2 ∧ t.mcuCount = s.mcuCount) ∧
      (i ≠ .encfin → t.incomplete = s.incomplete))

/-! ## The Streaming Encoder (spec/43_encoder.md) -/

/-- `ENCRST` (R170-R173, R230, R236): with a legal mode, legal sampled dimensions and, if explicit, legal tables, and a sink that
accepts the 306 or 589 bytes of the header, it completes with a fresh session, and nothing else changes. -/
def Obligations.EncrstOpensSession : Prop :=
  ∀ (expl : Bool) (m : ColorMode) (s : State) (rest : List SinkAnswer),
    let w := s.sampledWidth.toNat
    let h := s.sampledHeight.toNat
    let n := (match m with | .gray => 306 | .ycc444 => 589)
    1 ≤ w → w ≤ 65535 → 1 ≤ h → h ≤ 65535 →
    (expl = true → (∀ i : Fin 64, s.qt[0][i] ≠ 0) ∧ (m = .ycc444 → ∀ i : Fin 64, s.qt[1][i] ≠ 0)) →
    s.sink = List.replicate n .accept ++ rest →
    let sqt := if expl then s.qt else
      #v[Vector.ofFn fun i => BitVec.ofNat 8 (tableEntry baseL[i] 75), Vector.ofFn fun i => BitVec.ofNat 8 (tableEntry baseC[i] 75)]
    (headerBytes m w h sqt).length = n ∧
    exec (.encrst expl (match m with | .gray => 0 | .ycc444 => 1)) s = .next { s with
      incomplete := false, encMode := m, sqt := sqt, pred0 := 0, pred1 := 0, pred2 := 0, bitacc := 0, bitcnt := 0
      mcuTotal := BitVec.ofNat 32 ((w + 7) / 8 * ((h + 7) / 8)), mcuCount := 0
      outCount := BitVec.ofNat 32 n, stream := headerBytes m w h sqt, sinkHolds := s.sinkHolds ++ headerBytes m w h sqt
      sink := rest, encState := .ready, errcode := .none, done := true, engine := .idle }

/-- R171, R172, R174: `ENCRST` with mode 2 or 3, with a dimension 0 or above 65535, or with an explicit table that holds 0, ends
with `CONFIGURATION`: the session enters `ERROR`, `INCOMPLETE` is 0, nothing else changes and no byte is emitted. -/
def Obligations.EncrstRejectsConfiguration : Prop :=
  ∀ (expl : Bool) (mode : Fin 4) (s : State),
    (2 ≤ mode.val ∨ s.sampledWidth = 0 ∨ s.sampledHeight = 0 ∨ 65535 < s.sampledWidth.toNat ∨ 65535 < s.sampledHeight.toNat ∨
      expl = true ∧ ((∃ i : Fin 64, s.qt[0][i] = 0) ∨ mode = 1 ∧ ∃ i : Fin 64, s.qt[1][i] = 0)) →
    exec (.encrst expl mode) s = .next { s with
      incomplete := false, encState := .error, errcode := .configuration, err := true, done := true, engine := .idle }

/-- The header of a Gray session byte by byte around its tables (R230-R234), and the header sizes of R236. -/
def Obligations.HeaderLayout : Prop :=
  ∀ (w h : Nat) (sqt : Vector Table 2), w ≤ 65535 → h ≤ 65535 →
    (headerBytes .gray w h sqt =
      ([0xFF, 0xD8, 0xFF, 0xDB, 0x00, 0x43, 0x00] : List Byte) ++ (List.finRange 64).map (fun k => sqt[0][zz[k]]) ++
      [(0xFF : Byte), 0xC0, 0x00, 0x0B, 0x08, BitVec.ofNat 8 (h / 256), BitVec.ofNat 8 (h % 256), BitVec.ofNat 8 (w / 256),
        BitVec.ofNat 8 (w % 256), 0x01, 0x01, 0x11, 0x00] ++
      [(0xFF : Byte), 0xC4, 0x00, 0xD2, 0x00] ++ (dcL.bits ++ dcL.vals).map (BitVec.ofNat 8) ++
      [(0x10 : Byte)] ++ (acL.bits ++ acL.vals).map (BitVec.ofNat 8) ++
      [(0xFF : Byte), 0xDA, 0x00, 0x08, 0x01, 0x01, 0x00, 0x00, 0x3F, 0x00]) ∧
    (headerBytes .ycc444 w h sqt =
      ([0xFF, 0xD8, 0xFF, 0xDB, 0x00, 0x84, 0x00] : List Byte) ++ (List.finRange 64).map (fun k => sqt[0][zz[k]]) ++
      [(0x01 : Byte)] ++ (List.finRange 64).map (fun k => sqt[1][zz[k]]) ++
      [(0xFF : Byte), 0xC0, 0x00, 0x11, 0x08, BitVec.ofNat 8 (h / 256), BitVec.ofNat 8 (h % 256), BitVec.ofNat 8 (w / 256),
        BitVec.ofNat 8 (w % 256), 0x03, 0x01, 0x11, 0x00, 0x02, 0x11, 0x01, 0x03, 0x11, 0x01] ++
      [(0xFF : Byte), 0xC4, 0x01, 0xA2, 0x00] ++ (dcL.bits ++ dcL.vals).map (BitVec.ofNat 8) ++
      [(0x10 : Byte)] ++ (acL.bits ++ acL.vals).map (BitVec.ofNat 8) ++ [(0x01 : Byte)] ++ (dcC.bits ++ dcC.vals).map (BitVec.ofNat 8) ++
      [(0x11 : Byte)] ++ (acC.bits ++ acC.vals).map (BitVec.ofNat 8) ++
      [(0xFF : Byte), 0xDA, 0x00, 0x0C, 0x03, 0x01, 0x00, 0x02, 0x11, 0x03, 0x11, 0x00, 0x3F, 0x00]) ∧
    (headerBytes .gray w h sqt).length = 306 ∧ (headerBytes .ycc444 w h sqt).length = 589

/-- `ENCBLK1` (R176, R177, R180, R183, R184): in an open Gray session that still lacks an MCU, on a written block (R283) baseline
coding can represent, and with a sink that accepts the bytes, it completes: the codes follow the pending bits, the predictor and the count
move on, and nothing else changes. -/
def Obligations.Encblk1CodesBlock : Prop :=
  ∀ (a : OpField) (s : State) (rest : List SinkAnswer),
    let z : Fin 64 → Int := fun k => quantize (s.slots[a][zz[k]]).toInt (s.sqt[0][zz[k]]).toNat
    let diff := z 0 - s.pred0.toInt
    let codes := encodeDC diff .luma ++ encodeAC ((List.finRange 64).map z).tail .luma
    let p := codes.foldl Packer.putBits { acc := s.bitacc, cnt := s.bitcnt, out := [] }
    s.encState = .ready → s.encMode = .gray → s.mcuCount.toNat < s.mcuTotal.toNat → s.slotWritten a = true →
    category diff ≤ 11 → (∀ k : Fin 64, k ≠ 0 → category (z k) ≤ 10) →
    s.sink = List.replicate p.out.length .accept ++ rest →
    exec (.encblk1 a) s = .next { s with
      pred0 := BitVec.ofInt 16 (z 0), bitacc := p.acc, bitcnt := p.cnt, mcuCount := s.mcuCount + 1
      outCount := s.outCount + BitVec.ofNat 32 p.out.length, stream := s.stream ++ p.out, sinkHolds := s.sinkHolds ++ p.out
      sink := rest, errcode := .none, done := true, engine := .idle }

/-- `ENCBLK3` (R176, R177, R181, R183-R185): in an open YCbCr444 session that still lacks an MCU, on three written blocks (R283)
baseline coding can represent, and with a sink that accepts the bytes, it completes: Y with the luma tables, Cb and Cr with the chroma tables, in this
order; the three predictors and the count move on, and nothing else changes. -/
def Obligations.Encblk3CodesBlocks : Prop :=
  ∀ (a b c : OpField) (s : State) (rest : List SinkAnswer),
    let z : OpField → Fin 2 → Fin 64 → Int := fun n t k => quantize (s.slots[n][zz[k]]).toInt (s.sqt[t][zz[k]]).toNat
    let dY := z a 0 0 - s.pred0.toInt
    let dB := z b 1 0 - s.pred1.toInt
    let dR := z c 1 0 - s.pred2.toInt
    let codes := encodeDC dY .luma ++ encodeAC ((List.finRange 64).map (z a 0)).tail .luma ++
      (encodeDC dB .chroma ++ encodeAC ((List.finRange 64).map (z b 1)).tail .chroma) ++
      (encodeDC dR .chroma ++ encodeAC ((List.finRange 64).map (z c 1)).tail .chroma)
    let p := codes.foldl Packer.putBits { acc := s.bitacc, cnt := s.bitcnt, out := [] }
    s.encState = .ready → s.encMode = .ycc444 → s.mcuCount.toNat < s.mcuTotal.toNat →
    s.slotWritten a = true → s.slotWritten b = true → s.slotWritten c = true →
    category dY ≤ 11 → category dB ≤ 11 → category dR ≤ 11 →
    (∀ k : Fin 64, k ≠ 0 → category (z a 0 k) ≤ 10 ∧ category (z b 1 k) ≤ 10 ∧ category (z c 1 k) ≤ 10) →
    s.sink = List.replicate p.out.length .accept ++ rest →
    exec (.encblk3 a b c) s = .next { s with
      pred0 := BitVec.ofInt 16 (z a 0 0), pred1 := BitVec.ofInt 16 (z b 1 0), pred2 := BitVec.ofInt 16 (z c 1 0)
      bitacc := p.acc, bitcnt := p.cnt, mcuCount := s.mcuCount + 1
      outCount := s.outCount + BitVec.ofNat 32 p.out.length, stream := s.stream ++ p.out, sinkHolds := s.sinkHolds ++ p.out
      sink := rest, errcode := .none, done := true, engine := .idle }

/-- The checks of the block commands in their order (R180, R185, R186, R188, R252): the state, the mode, the count, the values.
Each failure moves the session to `ERROR` with its code, changes nothing else and emits nothing. The values are checked of slots that
have been written (R283). -/
def Obligations.BlockCommandErrors : Prop :=
  let E : ErrorCode → State → State := fun code s =>
    { s with encState := .error, errcode := code, err := true, done := true, engine := .idle }
  let bad : State → OpField → Fin 2 → S16 → Prop := fun s n t pred =>
    11 < category (quantize (s.slots[n][0]).toInt (s.sqt[t][0]).toNat - pred.toInt) ∨
    ∃ i : Fin 64, i ≠ 0 ∧ 10 < category (quantize (s.slots[n][i]).toInt (s.sqt[t][i]).toNat)
  (∀ (s : State) (i : Instr), (∃ a, i = .encblk1 a) ∨ (∃ a b c, i = .encblk3 a b c) → s.encState ≠ .ready →
    exec i s = .next (E .sequencing s)) ∧
  (∀ (s : State) (a : OpField), s.encState = .ready →
    (s.encMode ≠ .gray → exec (.encblk1 a) s = .next (E .configuration s)) ∧
    (s.encMode = .gray → s.mcuTotal.toNat ≤ s.mcuCount.toNat → exec (.encblk1 a) s = .next (E .sequencing s)) ∧
    (s.encMode = .gray → s.mcuCount.toNat < s.mcuTotal.toNat → s.slotWritten a = true → bad s a 0 s.pred0 →
      exec (.encblk1 a) s = .next (E .dataRange s))) ∧
  (∀ (s : State) (a b c : OpField), s.encState = .ready →
    (s.encMode ≠ .ycc444 → exec (.encblk3 a b c) s = .next (E .configuration s)) ∧
    (s.encMode = .ycc444 → s.mcuTotal.toNat ≤ s.mcuCount.toNat → exec (.encblk3 a b c) s = .next (E .sequencing s)) ∧
    (s.encMode = .ycc444 → s.mcuCount.toNat < s.mcuTotal.toNat → s.slotWritten a = true → s.slotWritten b = true →
      s.slotWritten c = true →
      bad s a 0 s.pred0 ∨ bad s b 1 s.pred1 ∨ bad s c 1 s.pred2 → exec (.encblk3 a b c) s = .next (E .dataRange s)))

/-- R283 item 1 and U4: a command that reads a slot with an entry not written since the reset. `IDCT` and `QUANT` complete with some
block; `FDCT`, `DOWNS`, `UPS` and `QBUILD` complete with some block, super-block or table, or with their data error; a block command
codes some bits, no more than R296 allows, and moves the predictors to some values, or fails with `DATA_RANGE`. Which, nothing
constrains: the values and the choice are free (log entry 27). Nothing else changes but the counter of the draws. -/
def Obligations.UnwrittenSlots : Prop :=
  let ends : ErrorCode → State → State := fun code st => { st with errcode := code, err := st.err || code != .none, done := true, engine := .idle }
  let all : Vector Bool 64 := Vector.replicate 64 true
  let slotSet : State → OpField → State → Prop := fun st d t =>
    ∃ (b : Block) (n : Nat), t = ends .none { st with slots := st.slots.set d b, written := st.written.set d all, draws := n }
  let fails : State → ErrorCode → State → Prop := fun st code t => ∃ n, t = ends code { st with draws := n }
  (∀ (d s : OpField) (st : State), st.slotWritten s = false →
    (∃ t, exec (.idct d s) st = .next t ∧ slotSet st d t) ∧
    (∃ t, exec (.fdct d s) st = .next t ∧ (slotSet st d t ∨ fails st .dataRange t)) ∧
    (∀ n : Fin 2, (∀ i : Fin 64, st.qt[n][i] ≠ 0) → ∃ t, exec (.quant d s ⟨n.val, by omega⟩) st = .next t ∧ slotSet st d t)) ∧
  (∀ (d : OpField) (b : Fin 13) (st : State), (∃ k : Fin 4, st.slotWritten ⟨b.val + k.val, by omega⟩ = false) →
    ∃ t, exec (.downs d ⟨b.val, by omega⟩) st = .next t ∧ (slotSet st d t ∨ fails st .dataRange t)) ∧
  (∀ (b : Fin 13) (s : OpField) (st : State), st.slotWritten s = false →
    ∃ t, exec (.ups ⟨b.val, by omega⟩ s) st = .next t ∧ (fails st .dataRange t ∨
      ∃ (q : Vector Block 4) (n : Nat), t = ends .none { st with
        slots := Vector.ofFn fun m =>
          if h : b.val ≤ m.val ∧ m.val ≤ b.val + 3 then q[m.val - b.val]'(by omega) else st.slots[m]
        written := Vector.ofFn fun m => if b.val ≤ m.val ∧ m.val ≤ b.val + 3 then all else st.written[m]
        draws := n })) ∧
  (∀ (n : Fin 2) (s : OpField) (q : Imm) (st : State), 1 ≤ q.val → q.val ≤ 100 → st.slotWritten s = false →
    ∃ t, exec (.qbuild ⟨n.val, by omega⟩ s 2 q) st = .next t ∧ (fails st .configuration t ∨
      ∃ (b : Table) (k : Nat), t = ends .none { st with qt := st.qt.set n b, draws := k })) ∧
  (∀ (a : OpField) (st : State), st.encState = .ready → st.encMode = .gray → st.mcuCount.toNat < st.mcuTotal.toNat →
    st.slotWritten a = false → ∃ t, exec (.encblk1 a) st = .next t ∧ (fails { st with encState := .error } .dataRange t ∨
      ∃ (codes : List Bits) (p : S16) (n : Nat), (codes.flatMap Bits.toBools).length ≤ 1658 ∧
        t = ({ st with draws := n } : State).emitBlocks codes p st.pred1 st.pred2)) ∧
  (∀ (a b c : OpField) (st : State), st.encState = .ready → st.encMode = .ycc444 → st.mcuCount.toNat < st.mcuTotal.toNat →
    (st.slotWritten a && st.slotWritten b && st.slotWritten c) = false →
    ∃ t, exec (.encblk3 a b c) st = .next t ∧ (fails { st with encState := .error } .dataRange t ∨
      ∃ (codes : List Bits) (p q r : S16) (n : Nat), (codes.flatMap Bits.toBools).length ≤ 1658 + 2 * 1408 ∧
        t = ({ st with draws := n } : State).emitBlocks codes p q r))

/-- `ENCFIN` from `READY` (R190, R225, R235): with a sink that accepts the bytes it completes: the pending bits padded with
1-bits, a zero byte after a pad byte `0xFF`, and EOI; `INCOMPLETE` says whether MCUs are missing; nothing else changes. -/
def Obligations.EncfinClosesSession : Prop :=
  ∀ (s : State) (rest : List SinkAnswer),
    let pad : Nat := (s.bitacc.toNat * 2 ^ (8 - s.bitcnt.val) ||| (2 ^ (8 - s.bitcnt.val) - 1)) % 256
    let bytes : List Byte :=
      (if s.bitcnt = 0 then [] else if pad = 255 then [0xFF, 0x00] else [BitVec.ofNat 8 pad]) ++ [0xFF, 0xD9]
    s.encState = .ready → s.sink = List.replicate bytes.length .accept ++ rest →
    exec .encfin s = .next { s with
      incomplete := decide (s.mcuCount.toNat < s.mcuTotal.toNat), bitacc := 0, bitcnt := 0, encState := .closed
      outCount := s.outCount + BitVec.ofNat 32 bytes.length, stream := s.stream ++ bytes, sinkHolds := s.sinkHolds ++ bytes
      sink := rest, errcode := .none, done := true, engine := .idle }

/-- R191: `ENCFIN` outside `READY` moves to `CLOSED`, emits nothing, succeeds, and leaves `INCOMPLETE` unchanged. -/
def Obligations.EncfinOutsideReady : Prop :=
  ∀ s : State, s.encState ≠ .ready →
    exec .encfin s = .next { s with encState := .closed, errcode := .none, done := true, engine := .idle }

/-! ## Entropy coding and the bit buffer (spec/44_bitstream.md) -/

/-- R210: the zig-zag order: every raster index once; along an anti-diagonal `u + v` from one position to the next, downward on
odd and upward on even diagonals; and `ZZINV` of the spec, given by its first row, is its inverse there. -/
def Obligations.ZigzagOrder : Prop :=
  (∀ i : Fin 64, ∃ k : Fin 64, zz[k] = i) ∧
  (∀ k : Fin 63,
    let i : Fin 64 := zz[k.val]
    let j : Fin 64 := zz[k.val + 1]
    let d := i.val / 8 + i.val % 8
    let e := j.val / 8 + j.val % 8
    (e = d ∧ (d % 2 = 1 → j.val / 8 = i.val / 8 + 1) ∧ (d % 2 = 0 → i.val / 8 = j.val / 8 + 1)) ∨ e = d + 1) ∧
  zz[0] = 0 ∧ zz[1] = 1 ∧ zz[5] = 2 ∧ zz[6] = 3 ∧ zz[14] = 4 ∧ zz[15] = 5 ∧ zz[27] = 6 ∧ zz[28] = 7

/-- R212, R213: the category is the least `n` with `abs(v) < 2^n`, with its bounds; the additional bits of a positive value are the
value and start with 1, those of a negative value are `(v - 1) mod 2^n` and start with 0. R214: the DC code is that of the category,
and the additional bits follow unless the category is 0. R215: the AC codes by the runs of zeros: one EOB for the zeros at the
end, however many, and nothing if there are none; before a non-zero value a ZRL for each 16 zeros, then the symbol `16*run + n` and
the additional bits, then the codes of the values after it. -/
def Obligations.CategoryAndAdditionalBits : Prop :=
  ∀ v : Int,
    (v.natAbs < 2 ^ category v ∧ ∀ n, v.natAbs < 2 ^ n → category v ≤ n) ∧
    (v.natAbs ≤ 2047 → category v ≤ 11) ∧ (v.natAbs ≤ 1023 → category v ≤ 10) ∧
    (v ≠ 0 → (additional v (category v)).n = category v ∧ (additional v (category v)).value < 2 ^ category v ∧
      (0 < v → ((additional v (category v)).value : Int) = v ∧ (additional v (category v)).toBools.head? = some true) ∧
      (v < 0 → ((additional v (category v)).value : Int) = (v - 1) % 2 ^ category v ∧
        (additional v (category v)).toBools.head? = some false)) ∧
    (∀ c : CodeClass, encodeDC v c = c.dc.code (category v) :: if v = 0 then [] else [additional v (category v)]) ∧
    (∀ (c : CodeClass) (run : Nat), encodeAC (List.replicate run 0) c = if run = 0 then [] else [c.ac.code 0x00]) ∧
    (∀ (c : CodeClass) (run : Nat) (rest : List Int), v ≠ 0 →
      encodeAC (List.replicate run 0 ++ v :: rest) c =
        List.replicate (run / 16) (c.ac.code 0xF0) ++
          c.ac.code (16 * (run % 16) + category v) :: additional v (category v) :: encodeAC rest c) ∧
    CodeClass.luma.dc = dcL ∧ CodeClass.luma.ac = acL ∧ CodeClass.chroma.dc = dcC ∧ CodeClass.chroma.ac = acC

/-- R221: the symbols of the four tables are exactly those the coding rules can produce, each once; no code is a prefix of
another, none is all 1-bits, none is empty, and the longest has 16 bits. R217-R220: and each symbol's code is the one the rule lists
(`Safety.lean` copies the listings). -/
def Obligations.CodeTablesComplete : Prop :=
  (∀ t ∈ [acL, acC], t.codes.length = 162 ∧
    ∀ sym, (∃ c, (sym, c) ∈ t.codes) ↔ sym = 0x00 ∨ sym = 0xF0 ∨ ∃ r s, r ≤ 15 ∧ 1 ≤ s ∧ s ≤ 10 ∧ sym = 16 * r + s) ∧
  (∀ t ∈ [dcL, dcC], t.codes.length = 12 ∧ ∀ sym, (∃ c, (sym, c) ∈ t.codes) ↔ sym ≤ 11) ∧
  (∀ t ∈ [dcL, acL, dcC, acC],
    (∀ a ∈ t.codes, ∀ b ∈ t.codes, a.1 ≠ b.1 → ¬ a.2.toBools <+: b.2.toBools) ∧
    (∀ a ∈ t.codes, 1 ≤ a.2.n ∧ a.2.n ≤ 16 ∧ a.2.value < 2 ^ a.2.n - 1 ∧ t.code a.1 = a.2)) ∧
  (∃ a ∈ acL.codes, a.2.n = 16) ∧
  (∀ n : Fin 12, dcL.code n.val = listedCode (dcLumaListing.getD n.val 0) ∧ dcC.code n.val = listedCode (dcChromaListing.getD n.val 0)) ∧
  (∀ (run : Fin 16) (size : Fin 11), size ≠ 0 ∨ run = 0 ∨ run = 15 →
    acL.code (16 * run.val + size.val) = listedCode ((acLumaListing.getD run.val []).getD size.val 0) ∧
    acC.code (16 * run.val + size.val) = listedCode ((acChromaListing.getD run.val []).getD size.val 0))

/-- R223, R224: the stream carries exactly the bits put in, in order, most significant bit of a byte first: the bytes without the
stuffed zeros, followed by the pending bits, are the pending bits before followed by the bits of the calls. And every `0xFF` the
bit buffer emits, the pad byte included (R225), is followed by a zero byte. -/
def Obligations.PackedBitsAreFaithful : Prop :=
  (∀ (acc : BitVec 7) (cnt : Fin 8) (bs : List Bits),
    let p := bs.foldl Packer.putBits { acc := acc, cnt := cnt, out := [] }
    (unstuffed p.out).flatMap byteBits ++ pendingBits p.acc p.cnt = pendingBits acc cnt ++ bs.flatMap Bits.toBools) ∧
  (∀ (acc : BitVec 7) (cnt : Fin 8) (bs : List Bits),
    let p := bs.foldl Packer.putBits { acc := acc, cnt := cnt, out := [] }
    let out := p.out ++ flushBytes p.acc p.cnt
    ∀ n (h : n < out.length), out[n] = 0xFF → out[n + 1]? = some 0x00)

/-! ## The sink (spec/20_memory.md) -/

/-- A rejected byte (R72, R73, R174, R188, R190). Whatever is being offered, when the sink accepts the first bytes and rejects the
next, the command ends with `IO` in `ERROR`; the stream and the sink hold exactly the accepted bytes and `OUT_COUNT` counts
them; the registers the rule leaves alone stay as they were. And of a command as a whole: where a sink that accepts the `n` bytes the
command emits makes it succeed in state `u`, a sink that accepts `k < n` and rejects the next makes it end in `u` with only the
first `k` bytes, `IO` and `ERROR`, and the registers R188 and R190 leave open at any values; after `ENCRST` the values of R173
stay as written, and `ENCFIN` leaves the predictors and `MCU_COUNT`. -/
def Obligations.RejectStopsAtTheByte : Prop :=
  (∀ (s : State) (fin : Finish) (sent : List Byte) (b : Byte) (later : List Byte) (rest : List SinkAnswer),
    s.sink = List.replicate sent.length .accept ++ .reject :: rest →
    ∃ t, s.offer fin (sent ++ b :: later) = t ∧
      t.errcode = .io ∧ t.err = true ∧ t.done = true ∧ t.engine = .idle ∧ t.encState = .error ∧ t.sink = rest ∧
      t.stream = s.stream ++ sent ∧ t.sinkHolds = s.sinkHolds ++ sent ∧ t.outCount = s.outCount + BitVec.ofNat 32 sent.length ∧
      t.slots = s.slots ∧ t.qt = s.qt ∧ t.sqt = s.sqt ∧ t.mcuTotal = s.mcuTotal ∧ t.encMode = s.encMode ∧ t.incomplete = s.incomplete ∧
      (fin = .openSession → t.pred0 = s.pred0 ∧ t.pred1 = s.pred1 ∧ t.pred2 = s.pred2 ∧ t.bitacc = s.bitacc ∧
        t.bitcnt = s.bitcnt ∧ t.mcuCount = s.mcuCount) ∧
      (fin = .closeSession → t.pred0 = s.pred0 ∧ t.pred1 = s.pred1 ∧ t.pred2 = s.pred2 ∧ t.mcuCount = s.mcuCount)) ∧
  (∀ (i : Instr) (s u : State) (n k : Nat) (rest : List SinkAnswer),
    exec i { s with sink := List.replicate n .accept } = .next u → u.engine = .idle → u.errcode = .none →
    u.sinkHolds.length = s.sinkHolds.length + n → k < n →
    ∃ t, exec i { s with sink := List.replicate k .accept ++ .reject :: rest } = .next t ∧
      t = { u with
        stream := u.stream.take (u.stream.length - n + k), sinkHolds := u.sinkHolds.take (s.sinkHolds.length + k)
        outCount := u.outCount - BitVec.ofNat 32 (n - k), sink := rest
        encState := .error, errcode := .io, err := true, done := true, engine := .idle
        pred0 := t.pred0, pred1 := t.pred1, pred2 := t.pred2, bitacc := t.bitacc, bitcnt := t.bitcnt
        mcuCount := t.mcuCount, draws := t.draws } ∧
      ((∃ expl mode, i = .encrst expl mode) → t.outCount = BitVec.ofNat 32 k ∧ t.stream.length = k ∧
        t.pred0 = 0 ∧ t.pred1 = 0 ∧ t.pred2 = 0 ∧ t.bitacc = 0 ∧ t.bitcnt = 0 ∧ t.mcuCount = 0) ∧
      (i = .encfin → t.pred0 = s.pred0 ∧ t.pred1 = s.pred1 ∧ t.pred2 = s.pred2 ∧ t.mcuCount = s.mcuCount))

/-- A stall only delays (R72, R297): if a command completes under the sink's answers without their stalls, then under the answers
with the stalls some number of further steps brings the same state, up to the answers left unused. The list of turns is empty: the
host makes no access while the command runs (log entry 1). -/
def Obligations.StallsOnlyDelay : Prop :=
  ∀ (i : Instr) (s v : State), s.turns = [] →
    exec i { s with sink := s.sink.filter (· ≠ .stall) } = .next v → v.engine = .idle →
    ∃ t n u, exec i s = .next t ∧ Host.Core.run Sys2Proof.core n t = .next u ∧ { u with sink := [] } = { v with sink := [] }

/-- R296: the most bytes a command offers to the sink: accepted bytes, and the bytes it still holds when the sink stalls. -/
def Obligations.ByteBounds : Prop :=
  ∀ (i : Instr) (s t : State), exec i s = .next t →
    t.sinkHolds.length + (match t.engine with | .offering _ rest _ => 1 + rest.length | _ => 0) ≤ s.sinkHolds.length +
      (match i with
       | .encrst _ mode => if mode = 0 then 306 else 589
       | .encblk1 _ => 416
       | .encblk3 _ _ _ => 1120
       | .encfin => 4
       | _ => 0)

/-- R44, R60, R73, R281: `OUT_COUNT` is the length of the stream since the last `ENCRST`, modulo `2^32`, and every step keeps this;
and a step only adds bytes at the end of what the sink holds, until the platform connects a fresh sink. -/
def Obligations.StreamBookkeeping : Prop :=
  (State.reset.outCount = BitVec.ofNat 32 State.reset.stream.length) ∧
  (∀ (s t : State), s.outCount = BitVec.ofNat 32 s.stream.length → step s = .next t →
    t.outCount = BitVec.ofNat 32 t.stream.length) ∧
  (∀ (s t : State), step s = .next t → (∀ rest, s.turns ≠ .freshSink :: rest) → s.sinkHolds <+: t.sinkHolds)

/-! ## Whole-machine rules -/

/-- The stream of a whole session (R194): when `ENCRST`, block commands and `ENCFIN` each complete without error, the stream is the
header, the codes of the blocks in order packed and stuffed, the pad byte, and EOI; the session is closed, no more MCUs were coded
than the image has, and `INCOMPLETE` says whether some are missing. The blocks stand in written slots when `ENCRST` runs: the host loads
none between the commands. -/
def Obligations.SessionStream : Prop :=
  ∀ (expl : Bool) (s t : State),
    let w := s.sampledWidth.toNat
    let h := s.sampledHeight.toNat
    let total := (w + 7) / 8 * ((h + 7) / 8)
    let sqt := sessionTables expl s.qt
    (∀ as : List OpField, (∀ a ∈ as, s.slotWritten a = true) → runAll (.encrst expl 0 :: (as.map .encblk1 ++ [.encfin])) s = some t →
      t.stream = headerBytes .gray w h sqt ++ scanBytes (grayScan sqt 0 (as.map fun a => s.slots[a])) ++ [0xFF, 0xD9] ∧
      t.encState = .closed ∧ t.outCount = BitVec.ofNat 32 t.stream.length ∧ as.length ≤ total ∧
      t.incomplete = decide (as.length < total)) ∧
    (∀ as : List (OpField × OpField × OpField),
      (∀ a ∈ as, s.slotWritten a.1 = true ∧ s.slotWritten a.2.1 = true ∧ s.slotWritten a.2.2 = true) →
      runAll (.encrst expl 1 :: (as.map (fun a => .encblk3 a.1 a.2.1 a.2.2) ++ [.encfin])) s = some t →
      t.stream = headerBytes .ycc444 w h sqt ++
        scanBytes (colourScan sqt 0 0 0 (as.map fun a => (s.slots[a.1], s.slots[a.2.1], s.slots[a.2.2]))) ++ [0xFF, 0xD9] ∧
      t.encState = .closed ∧ t.outCount = BitVec.ofNat 32 t.stream.length ∧ as.length ≤ total ∧
      t.incomplete = decide (as.length < total))

/-- The session's tables change only by `ENCRST` or the reset input (R35, R40): no host access and no other command reaches them. -/
def Obligations.SessionTablesAreLatched : Prop :=
  ∀ (s t : State), step s = .next t → t.sqt ≠ s.sqt →
    (∃ rest, s.turns = .reset :: rest) ∨
    ∃ u expl mode, u.engine = .accepted ∧ decode u.cmd = .ok (.encrst expl mode) ∧ u.engineTurn = .next t ∧
      (u = s ∨ ∃ rest, s.turns = .engine :: rest ∧ u = { s with turns := rest } ∨
        ∃ a, s.turns = .both a :: rest ∧ u = ({ s with turns := rest } : State).hostAccess a)

/-- The session's invariant holds after reset. -/
def Obligations.ResetHasSessionInvariant : Prop := State.reset.SessionInv

/-- Every step keeps the session's invariant (R40, R41, R43): while the session is open its factors are legal, the MCU count does
not pass the total, and no bit of `BITACC` at or above `BITCNT` is set. -/
def Obligations.StepKeepsSessionInvariant : Prop :=
  ∀ (s t : State), s.SessionInv → step s = .next t → t.SessionInv
end

