-- ==== Sys2Proof/Laws/Bitstream.lean ====
section
/-! SUPPORT. The bit buffer: what one bit does, and that calls of `PutBits` only add bytes. -/

namespace Sys2Proof.Machine

/-- One bit either joins the pending bits or completes a byte. -/
theorem putBit_cases (p : Packer) (bit : Bool) :
    (p.cnt = 7 ∧ p.putBit bit = { acc := 0, cnt := 0, out := p.out ++ stuffed (p.acc.concat bit) }) ∨
    (p.cnt ≠ 7 ∧ p.putBit bit = { acc := p.acc.shiftConcat bit, cnt := p.cnt + 1, out := p.out }) := by
  by_cases h : p.cnt = 7
  · exact .inl ⟨h, by simp [Packer.putBit, h]⟩
  · exact .inr ⟨h, by simp [Packer.putBit, h]⟩

/-- A byte of entropy-coded data takes one or two places in the stream (R224). -/
theorem stuffed_length_le (b : Byte) : 1 ≤ (stuffed b).length ∧ (stuffed b).length ≤ 2 := by
  unfold stuffed; split <;> simp

/-- The bits of two calls in a row are the bits of the calls, in order. -/
theorem putAll_append (p : Packer) (as bs : List Bits) : p.putAll (as ++ bs) = (p.putAll as).putAll bs := by
  simp [Packer.putAll]

/-- Calls of `PutBits` are one run over their bits. -/
theorem putAll_eq_foldl (p : Packer) (bs : List Bits) : p.putAll bs = (bs.flatMap Bits.toBools).foldl Packer.putBit p := by
  induction bs generalizing p with
  | nil => rfl
  | cons b bs ih =>
      simp only [Packer.putAll, List.foldl_cons, List.flatMap_cons, List.foldl_append]
      exact ih _

end Sys2Proof.Machine
end

