-- ==== Sys2Proof/Laws/Decode.lean ====
section
/-! SUPPORT. Cutting a word into fields and putting it together again are inverse. -/

namespace Sys2Proof

/-- The number a word's fields make. -/
theorem toWord_toNat (f : Fields) :
    f.toWord.toNat =
      f.op.val * 2 ^ 24 + f.rd.val * 2 ^ 20 + f.rs1.val * 2 ^ 16 + f.rs2.val * 2 ^ 12 + f.rs3.val * 2 ^ 8 + f.imm.val := by
  rw [Fields.toWord, BitVec.toNat_ofNat, Nat.mod_eq_of_lt]
  omega

/-- No field is lost or mixed with another in the word. -/
theorem fieldsOf_toWord (f : Fields) : fieldsOf f.toWord = f := by
  have h := toWord_toNat f
  obtain ⟨op, rd, rs1, rs2, rs3, imm⟩ := f
  simp only [fieldsOf, field4, field8, h, Fields.mk.injEq, Fin.ext_iff]
  refine ⟨?_, ?_, ?_, ?_, ?_, ?_⟩ <;> omega

/-- A word is made of its fields alone. -/
theorem toWord_fieldsOf (w : Word) : (fieldsOf w).toWord = w := by
  apply BitVec.eq_of_toNat_eq
  rw [toWord_toNat]
  simp only [fieldsOf, field4, field8]
  have := w.isLt
  omega

end Sys2Proof
end

