-- ==== Sys2Proof/Laws/State.lean ====
section
/-! SUPPORT. One lemma per field and update of the state: what each named update writes, and that it leaves every other field as
it was. The lemmas are for `simp`; no later proof unfolds an update. -/

namespace Sys2Proof.Machine.State

/-! ### `setSlot` -/

section
variable (s : State) (n : OpField) (b : Block)

@[simp] theorem setSlot_ctrlIE : (s.setSlot n b).ctrlIE = s.ctrlIE := rfl
@[simp] theorem setSlot_done : (s.setSlot n b).done = s.done := rfl
@[simp] theorem setSlot_err : (s.setSlot n b).err = s.err := rfl
@[simp] theorem setSlot_cmdOverrun : (s.setSlot n b).cmdOverrun = s.cmdOverrun := rfl
@[simp] theorem setSlot_accConflict : (s.setSlot n b).accConflict = s.accConflict := rfl
@[simp] theorem setSlot_incomplete : (s.setSlot n b).incomplete = s.incomplete := rfl
@[simp] theorem setSlot_errcode : (s.setSlot n b).errcode = s.errcode := rfl
@[simp] theorem setSlot_encState : (s.setSlot n b).encState = s.encState := rfl
@[simp] theorem setSlot_encMode : (s.setSlot n b).encMode = s.encMode := rfl
@[simp] theorem setSlot_cmd : (s.setSlot n b).cmd = s.cmd := rfl
@[simp] theorem setSlot_width : (s.setSlot n b).width = s.width := rfl
@[simp] theorem setSlot_height : (s.setSlot n b).height = s.height := rfl
@[simp] theorem setSlot_mcuTotal : (s.setSlot n b).mcuTotal = s.mcuTotal := rfl
@[simp] theorem setSlot_mcuCount : (s.setSlot n b).mcuCount = s.mcuCount := rfl
@[simp] theorem setSlot_pred0 : (s.setSlot n b).pred0 = s.pred0 := rfl
@[simp] theorem setSlot_pred1 : (s.setSlot n b).pred1 = s.pred1 := rfl
@[simp] theorem setSlot_pred2 : (s.setSlot n b).pred2 = s.pred2 := rfl
@[simp] theorem setSlot_bitacc : (s.setSlot n b).bitacc = s.bitacc := rfl
@[simp] theorem setSlot_bitcnt : (s.setSlot n b).bitcnt = s.bitcnt := rfl
@[simp] theorem setSlot_outCount : (s.setSlot n b).outCount = s.outCount := rfl
@[simp] theorem setSlot_slots : (s.setSlot n b).slots = s.slots.set n b := rfl
@[simp] theorem setSlot_written : (s.setSlot n b).written = s.written.set n (Vector.replicate 64 true) := rfl
@[simp] theorem setSlot_qt : (s.setSlot n b).qt = s.qt := rfl
@[simp] theorem setSlot_sqt : (s.setSlot n b).sqt = s.sqt := rfl
@[simp] theorem setSlot_engine : (s.setSlot n b).engine = s.engine := rfl
@[simp] theorem setSlot_sampledWidth : (s.setSlot n b).sampledWidth = s.sampledWidth := rfl
@[simp] theorem setSlot_sampledHeight : (s.setSlot n b).sampledHeight = s.sampledHeight := rfl
@[simp] theorem setSlot_stream : (s.setSlot n b).stream = s.stream := rfl
@[simp] theorem setSlot_sinkHolds : (s.setSlot n b).sinkHolds = s.sinkHolds := rfl
@[simp] theorem setSlot_busReply : (s.setSlot n b).busReply = s.busReply := rfl
@[simp] theorem setSlot_turns : (s.setSlot n b).turns = s.turns := rfl
@[simp] theorem setSlot_sink : (s.setSlot n b).sink = s.sink := rfl
@[simp] theorem setSlot_draws : (s.setSlot n b).draws = s.draws := rfl

end

/-! ### `setQt` -/

section
variable (s : State) (t : Fin 2) (b : Table)

@[simp] theorem setQt_ctrlIE : (s.setQt t b).ctrlIE = s.ctrlIE := rfl
@[simp] theorem setQt_done : (s.setQt t b).done = s.done := rfl
@[simp] theorem setQt_err : (s.setQt t b).err = s.err := rfl
@[simp] theorem setQt_cmdOverrun : (s.setQt t b).cmdOverrun = s.cmdOverrun := rfl
@[simp] theorem setQt_accConflict : (s.setQt t b).accConflict = s.accConflict := rfl
@[simp] theorem setQt_incomplete : (s.setQt t b).incomplete = s.incomplete := rfl
@[simp] theorem setQt_errcode : (s.setQt t b).errcode = s.errcode := rfl
@[simp] theorem setQt_encState : (s.setQt t b).encState = s.encState := rfl
@[simp] theorem setQt_encMode : (s.setQt t b).encMode = s.encMode := rfl
@[simp] theorem setQt_cmd : (s.setQt t b).cmd = s.cmd := rfl
@[simp] theorem setQt_width : (s.setQt t b).width = s.width := rfl
@[simp] theorem setQt_height : (s.setQt t b).height = s.height := rfl
@[simp] theorem setQt_mcuTotal : (s.setQt t b).mcuTotal = s.mcuTotal := rfl
@[simp] theorem setQt_mcuCount : (s.setQt t b).mcuCount = s.mcuCount := rfl
@[simp] theorem setQt_pred0 : (s.setQt t b).pred0 = s.pred0 := rfl
@[simp] theorem setQt_pred1 : (s.setQt t b).pred1 = s.pred1 := rfl
@[simp] theorem setQt_pred2 : (s.setQt t b).pred2 = s.pred2 := rfl
@[simp] theorem setQt_bitacc : (s.setQt t b).bitacc = s.bitacc := rfl
@[simp] theorem setQt_bitcnt : (s.setQt t b).bitcnt = s.bitcnt := rfl
@[simp] theorem setQt_outCount : (s.setQt t b).outCount = s.outCount := rfl
@[simp] theorem setQt_slots : (s.setQt t b).slots = s.slots := rfl
@[simp] theorem setQt_written : (s.setQt t b).written = s.written := rfl
@[simp] theorem setQt_qt : (s.setQt t b).qt = s.qt.set t b := rfl
@[simp] theorem setQt_sqt : (s.setQt t b).sqt = s.sqt := rfl
@[simp] theorem setQt_engine : (s.setQt t b).engine = s.engine := rfl
@[simp] theorem setQt_sampledWidth : (s.setQt t b).sampledWidth = s.sampledWidth := rfl
@[simp] theorem setQt_sampledHeight : (s.setQt t b).sampledHeight = s.sampledHeight := rfl
@[simp] theorem setQt_stream : (s.setQt t b).stream = s.stream := rfl
@[simp] theorem setQt_sinkHolds : (s.setQt t b).sinkHolds = s.sinkHolds := rfl
@[simp] theorem setQt_busReply : (s.setQt t b).busReply = s.busReply := rfl
@[simp] theorem setQt_turns : (s.setQt t b).turns = s.turns := rfl
@[simp] theorem setQt_sink : (s.setQt t b).sink = s.sink := rfl
@[simp] theorem setQt_draws : (s.setQt t b).draws = s.draws := rfl

end

/-! ### `complete` -/

section
variable (s : State) (code : ErrorCode)

@[simp] theorem complete_ctrlIE : (s.complete code).ctrlIE = s.ctrlIE := rfl
@[simp] theorem complete_done : (s.complete code).done = true := rfl
@[simp] theorem complete_err : (s.complete code).err = (s.err || code != .none) := rfl
@[simp] theorem complete_cmdOverrun : (s.complete code).cmdOverrun = s.cmdOverrun := rfl
@[simp] theorem complete_accConflict : (s.complete code).accConflict = s.accConflict := rfl
@[simp] theorem complete_incomplete : (s.complete code).incomplete = s.incomplete := rfl
@[simp] theorem complete_errcode : (s.complete code).errcode = code := rfl
@[simp] theorem complete_encState : (s.complete code).encState = s.encState := rfl
@[simp] theorem complete_encMode : (s.complete code).encMode = s.encMode := rfl
@[simp] theorem complete_cmd : (s.complete code).cmd = s.cmd := rfl
@[simp] theorem complete_width : (s.complete code).width = s.width := rfl
@[simp] theorem complete_height : (s.complete code).height = s.height := rfl
@[simp] theorem complete_mcuTotal : (s.complete code).mcuTotal = s.mcuTotal := rfl
@[simp] theorem complete_mcuCount : (s.complete code).mcuCount = s.mcuCount := rfl
@[simp] theorem complete_pred0 : (s.complete code).pred0 = s.pred0 := rfl
@[simp] theorem complete_pred1 : (s.complete code).pred1 = s.pred1 := rfl
@[simp] theorem complete_pred2 : (s.complete code).pred2 = s.pred2 := rfl
@[simp] theorem complete_bitacc : (s.complete code).bitacc = s.bitacc := rfl
@[simp] theorem complete_bitcnt : (s.complete code).bitcnt = s.bitcnt := rfl
@[simp] theorem complete_outCount : (s.complete code).outCount = s.outCount := rfl
@[simp] theorem complete_slots : (s.complete code).slots = s.slots := rfl
@[simp] theorem complete_written : (s.complete code).written = s.written := rfl
@[simp] theorem complete_qt : (s.complete code).qt = s.qt := rfl
@[simp] theorem complete_sqt : (s.complete code).sqt = s.sqt := rfl
@[simp] theorem complete_engine : (s.complete code).engine = .idle := rfl
@[simp] theorem complete_sampledWidth : (s.complete code).sampledWidth = s.sampledWidth := rfl
@[simp] theorem complete_sampledHeight : (s.complete code).sampledHeight = s.sampledHeight := rfl
@[simp] theorem complete_stream : (s.complete code).stream = s.stream := rfl
@[simp] theorem complete_sinkHolds : (s.complete code).sinkHolds = s.sinkHolds := rfl
@[simp] theorem complete_busReply : (s.complete code).busReply = s.busReply := rfl
@[simp] theorem complete_turns : (s.complete code).turns = s.turns := rfl
@[simp] theorem complete_sink : (s.complete code).sink = s.sink := rfl
@[simp] theorem complete_draws : (s.complete code).draws = s.draws := rfl

end

/-! ### `failEncoder` -/

section
variable (s : State) (code : ErrorCode)

@[simp] theorem failEncoder_ctrlIE : (s.failEncoder code).ctrlIE = s.ctrlIE := rfl
@[simp] theorem failEncoder_done : (s.failEncoder code).done = true := rfl
@[simp] theorem failEncoder_err : (s.failEncoder code).err = (s.err || code != .none) := rfl
@[simp] theorem failEncoder_cmdOverrun : (s.failEncoder code).cmdOverrun = s.cmdOverrun := rfl
@[simp] theorem failEncoder_accConflict : (s.failEncoder code).accConflict = s.accConflict := rfl
@[simp] theorem failEncoder_incomplete : (s.failEncoder code).incomplete = s.incomplete := rfl
@[simp] theorem failEncoder_errcode : (s.failEncoder code).errcode = code := rfl
@[simp] theorem failEncoder_encState : (s.failEncoder code).encState = .error := rfl
@[simp] theorem failEncoder_encMode : (s.failEncoder code).encMode = s.encMode := rfl
@[simp] theorem failEncoder_cmd : (s.failEncoder code).cmd = s.cmd := rfl
@[simp] theorem failEncoder_width : (s.failEncoder code).width = s.width := rfl
@[simp] theorem failEncoder_height : (s.failEncoder code).height = s.height := rfl
@[simp] theorem failEncoder_mcuTotal : (s.failEncoder code).mcuTotal = s.mcuTotal := rfl
@[simp] theorem failEncoder_mcuCount : (s.failEncoder code).mcuCount = s.mcuCount := rfl
@[simp] theorem failEncoder_pred0 : (s.failEncoder code).pred0 = s.pred0 := rfl
@[simp] theorem failEncoder_pred1 : (s.failEncoder code).pred1 = s.pred1 := rfl
@[simp] theorem failEncoder_pred2 : (s.failEncoder code).pred2 = s.pred2 := rfl
@[simp] theorem failEncoder_bitacc : (s.failEncoder code).bitacc = s.bitacc := rfl
@[simp] theorem failEncoder_bitcnt : (s.failEncoder code).bitcnt = s.bitcnt := rfl
@[simp] theorem failEncoder_outCount : (s.failEncoder code).outCount = s.outCount := rfl
@[simp] theorem failEncoder_slots : (s.failEncoder code).slots = s.slots := rfl
@[simp] theorem failEncoder_written : (s.failEncoder code).written = s.written := rfl
@[simp] theorem failEncoder_qt : (s.failEncoder code).qt = s.qt := rfl
@[simp] theorem failEncoder_sqt : (s.failEncoder code).sqt = s.sqt := rfl
@[simp] theorem failEncoder_engine : (s.failEncoder code).engine = .idle := rfl
@[simp] theorem failEncoder_sampledWidth : (s.failEncoder code).sampledWidth = s.sampledWidth := rfl
@[simp] theorem failEncoder_sampledHeight : (s.failEncoder code).sampledHeight = s.sampledHeight := rfl
@[simp] theorem failEncoder_stream : (s.failEncoder code).stream = s.stream := rfl
@[simp] theorem failEncoder_sinkHolds : (s.failEncoder code).sinkHolds = s.sinkHolds := rfl
@[simp] theorem failEncoder_busReply : (s.failEncoder code).busReply = s.busReply := rfl
@[simp] theorem failEncoder_turns : (s.failEncoder code).turns = s.turns := rfl
@[simp] theorem failEncoder_sink : (s.failEncoder code).sink = s.sink := rfl
@[simp] theorem failEncoder_draws : (s.failEncoder code).draws = s.draws := rfl

end

/-! ### `accept` -/

section
variable (s : State) (w : Word)

@[simp] theorem accept_ctrlIE : (s.accept w).ctrlIE = s.ctrlIE := rfl
@[simp] theorem accept_done : (s.accept w).done = s.done := rfl
@[simp] theorem accept_err : (s.accept w).err = s.err := rfl
@[simp] theorem accept_cmdOverrun : (s.accept w).cmdOverrun = s.cmdOverrun := rfl
@[simp] theorem accept_accConflict : (s.accept w).accConflict = s.accConflict := rfl
@[simp] theorem accept_incomplete : (s.accept w).incomplete = s.incomplete := rfl
@[simp] theorem accept_errcode : (s.accept w).errcode = s.errcode := rfl
@[simp] theorem accept_encState : (s.accept w).encState = s.encState := rfl
@[simp] theorem accept_encMode : (s.accept w).encMode = s.encMode := rfl
@[simp] theorem accept_cmd : (s.accept w).cmd = w := rfl
@[simp] theorem accept_width : (s.accept w).width = s.width := rfl
@[simp] theorem accept_height : (s.accept w).height = s.height := rfl
@[simp] theorem accept_mcuTotal : (s.accept w).mcuTotal = s.mcuTotal := rfl
@[simp] theorem accept_mcuCount : (s.accept w).mcuCount = s.mcuCount := rfl
@[simp] theorem accept_pred0 : (s.accept w).pred0 = s.pred0 := rfl
@[simp] theorem accept_pred1 : (s.accept w).pred1 = s.pred1 := rfl
@[simp] theorem accept_pred2 : (s.accept w).pred2 = s.pred2 := rfl
@[simp] theorem accept_bitacc : (s.accept w).bitacc = s.bitacc := rfl
@[simp] theorem accept_bitcnt : (s.accept w).bitcnt = s.bitcnt := rfl
@[simp] theorem accept_outCount : (s.accept w).outCount = s.outCount := rfl
@[simp] theorem accept_slots : (s.accept w).slots = s.slots := rfl
@[simp] theorem accept_written : (s.accept w).written = s.written := rfl
@[simp] theorem accept_qt : (s.accept w).qt = s.qt := rfl
@[simp] theorem accept_sqt : (s.accept w).sqt = s.sqt := rfl
@[simp] theorem accept_engine : (s.accept w).engine = .accepted := rfl
@[simp] theorem accept_sampledWidth : (s.accept w).sampledWidth = s.width := rfl
@[simp] theorem accept_sampledHeight : (s.accept w).sampledHeight = s.height := rfl
@[simp] theorem accept_stream : (s.accept w).stream = s.stream := rfl
@[simp] theorem accept_sinkHolds : (s.accept w).sinkHolds = s.sinkHolds := rfl
@[simp] theorem accept_busReply : (s.accept w).busReply = s.busReply := rfl
@[simp] theorem accept_turns : (s.accept w).turns = s.turns := rfl
@[simp] theorem accept_sink : (s.accept w).sink = s.sink := rfl
@[simp] theorem accept_draws : (s.accept w).draws = s.draws := rfl

end

/-! ### `appendByte` -/

section
variable (s : State) (b : Byte)

@[simp] theorem appendByte_ctrlIE : (s.appendByte b).ctrlIE = s.ctrlIE := rfl
@[simp] theorem appendByte_done : (s.appendByte b).done = s.done := rfl
@[simp] theorem appendByte_err : (s.appendByte b).err = s.err := rfl
@[simp] theorem appendByte_cmdOverrun : (s.appendByte b).cmdOverrun = s.cmdOverrun := rfl
@[simp] theorem appendByte_accConflict : (s.appendByte b).accConflict = s.accConflict := rfl
@[simp] theorem appendByte_incomplete : (s.appendByte b).incomplete = s.incomplete := rfl
@[simp] theorem appendByte_errcode : (s.appendByte b).errcode = s.errcode := rfl
@[simp] theorem appendByte_encState : (s.appendByte b).encState = s.encState := rfl
@[simp] theorem appendByte_encMode : (s.appendByte b).encMode = s.encMode := rfl
@[simp] theorem appendByte_cmd : (s.appendByte b).cmd = s.cmd := rfl
@[simp] theorem appendByte_width : (s.appendByte b).width = s.width := rfl
@[simp] theorem appendByte_height : (s.appendByte b).height = s.height := rfl
@[simp] theorem appendByte_mcuTotal : (s.appendByte b).mcuTotal = s.mcuTotal := rfl
@[simp] theorem appendByte_mcuCount : (s.appendByte b).mcuCount = s.mcuCount := rfl
@[simp] theorem appendByte_pred0 : (s.appendByte b).pred0 = s.pred0 := rfl
@[simp] theorem appendByte_pred1 : (s.appendByte b).pred1 = s.pred1 := rfl
@[simp] theorem appendByte_pred2 : (s.appendByte b).pred2 = s.pred2 := rfl
@[simp] theorem appendByte_bitacc : (s.appendByte b).bitacc = s.bitacc := rfl
@[simp] theorem appendByte_bitcnt : (s.appendByte b).bitcnt = s.bitcnt := rfl
@[simp] theorem appendByte_outCount : (s.appendByte b).outCount = s.outCount + 1 := rfl
@[simp] theorem appendByte_slots : (s.appendByte b).slots = s.slots := rfl
@[simp] theorem appendByte_written : (s.appendByte b).written = s.written := rfl
@[simp] theorem appendByte_qt : (s.appendByte b).qt = s.qt := rfl
@[simp] theorem appendByte_sqt : (s.appendByte b).sqt = s.sqt := rfl
@[simp] theorem appendByte_engine : (s.appendByte b).engine = s.engine := rfl
@[simp] theorem appendByte_sampledWidth : (s.appendByte b).sampledWidth = s.sampledWidth := rfl
@[simp] theorem appendByte_sampledHeight : (s.appendByte b).sampledHeight = s.sampledHeight := rfl
@[simp] theorem appendByte_stream : (s.appendByte b).stream = s.stream ++ [b] := rfl
@[simp] theorem appendByte_sinkHolds : (s.appendByte b).sinkHolds = s.sinkHolds ++ [b] := rfl
@[simp] theorem appendByte_busReply : (s.appendByte b).busReply = s.busReply := rfl
@[simp] theorem appendByte_turns : (s.appendByte b).turns = s.turns := rfl
@[simp] theorem appendByte_sink : (s.appendByte b).sink = s.sink := rfl
@[simp] theorem appendByte_draws : (s.appendByte b).draws = s.draws := rfl

end

/-! ### `freeBitstate` -/

section
variable (s : State)

@[simp] theorem freeBitstate_ctrlIE : (s.freeBitstate).ctrlIE = s.ctrlIE := rfl
@[simp] theorem freeBitstate_done : (s.freeBitstate).done = s.done := rfl
@[simp] theorem freeBitstate_err : (s.freeBitstate).err = s.err := rfl
@[simp] theorem freeBitstate_cmdOverrun : (s.freeBitstate).cmdOverrun = s.cmdOverrun := rfl
@[simp] theorem freeBitstate_accConflict : (s.freeBitstate).accConflict = s.accConflict := rfl
@[simp] theorem freeBitstate_incomplete : (s.freeBitstate).incomplete = s.incomplete := rfl
@[simp] theorem freeBitstate_errcode : (s.freeBitstate).errcode = s.errcode := rfl
@[simp] theorem freeBitstate_encState : (s.freeBitstate).encState = s.encState := rfl
@[simp] theorem freeBitstate_encMode : (s.freeBitstate).encMode = s.encMode := rfl
@[simp] theorem freeBitstate_cmd : (s.freeBitstate).cmd = s.cmd := rfl
@[simp] theorem freeBitstate_width : (s.freeBitstate).width = s.width := rfl
@[simp] theorem freeBitstate_height : (s.freeBitstate).height = s.height := rfl
@[simp] theorem freeBitstate_mcuTotal : (s.freeBitstate).mcuTotal = s.mcuTotal := rfl
@[simp] theorem freeBitstate_mcuCount : (s.freeBitstate).mcuCount = s.mcuCount := rfl
@[simp] theorem freeBitstate_pred0 : (s.freeBitstate).pred0 = s.pred0 := rfl
@[simp] theorem freeBitstate_pred1 : (s.freeBitstate).pred1 = s.pred1 := rfl
@[simp] theorem freeBitstate_pred2 : (s.freeBitstate).pred2 = s.pred2 := rfl
@[simp] theorem freeBitstate_outCount : (s.freeBitstate).outCount = s.outCount := rfl
@[simp] theorem freeBitstate_slots : (s.freeBitstate).slots = s.slots := rfl
@[simp] theorem freeBitstate_written : (s.freeBitstate).written = s.written := rfl
@[simp] theorem freeBitstate_qt : (s.freeBitstate).qt = s.qt := rfl
@[simp] theorem freeBitstate_sqt : (s.freeBitstate).sqt = s.sqt := rfl
@[simp] theorem freeBitstate_engine : (s.freeBitstate).engine = s.engine := rfl
@[simp] theorem freeBitstate_sampledWidth : (s.freeBitstate).sampledWidth = s.sampledWidth := rfl
@[simp] theorem freeBitstate_sampledHeight : (s.freeBitstate).sampledHeight = s.sampledHeight := rfl
@[simp] theorem freeBitstate_stream : (s.freeBitstate).stream = s.stream := rfl
@[simp] theorem freeBitstate_sinkHolds : (s.freeBitstate).sinkHolds = s.sinkHolds := rfl
@[simp] theorem freeBitstate_busReply : (s.freeBitstate).busReply = s.busReply := rfl
@[simp] theorem freeBitstate_turns : (s.freeBitstate).turns = s.turns := rfl
@[simp] theorem freeBitstate_sink : (s.freeBitstate).sink = s.sink := rfl
@[simp] theorem freeBitstate_draws : (s.freeBitstate).draws = s.draws + 2 := rfl

end

/-! ### `freeCounters` -/

section
variable (s : State)

@[simp] theorem freeCounters_ctrlIE : (s.freeCounters).ctrlIE = s.ctrlIE := rfl
@[simp] theorem freeCounters_done : (s.freeCounters).done = s.done := rfl
@[simp] theorem freeCounters_err : (s.freeCounters).err = s.err := rfl
@[simp] theorem freeCounters_cmdOverrun : (s.freeCounters).cmdOverrun = s.cmdOverrun := rfl
@[simp] theorem freeCounters_accConflict : (s.freeCounters).accConflict = s.accConflict := rfl
@[simp] theorem freeCounters_incomplete : (s.freeCounters).incomplete = s.incomplete := rfl
@[simp] theorem freeCounters_errcode : (s.freeCounters).errcode = s.errcode := rfl
@[simp] theorem freeCounters_encState : (s.freeCounters).encState = s.encState := rfl
@[simp] theorem freeCounters_encMode : (s.freeCounters).encMode = s.encMode := rfl
@[simp] theorem freeCounters_cmd : (s.freeCounters).cmd = s.cmd := rfl
@[simp] theorem freeCounters_width : (s.freeCounters).width = s.width := rfl
@[simp] theorem freeCounters_height : (s.freeCounters).height = s.height := rfl
@[simp] theorem freeCounters_mcuTotal : (s.freeCounters).mcuTotal = s.mcuTotal := rfl
@[simp] theorem freeCounters_bitacc : (s.freeCounters).bitacc = s.bitacc := rfl
@[simp] theorem freeCounters_bitcnt : (s.freeCounters).bitcnt = s.bitcnt := rfl
@[simp] theorem freeCounters_outCount : (s.freeCounters).outCount = s.outCount := rfl
@[simp] theorem freeCounters_slots : (s.freeCounters).slots = s.slots := rfl
@[simp] theorem freeCounters_written : (s.freeCounters).written = s.written := rfl
@[simp] theorem freeCounters_qt : (s.freeCounters).qt = s.qt := rfl
@[simp] theorem freeCounters_sqt : (s.freeCounters).sqt = s.sqt := rfl
@[simp] theorem freeCounters_engine : (s.freeCounters).engine = s.engine := rfl
@[simp] theorem freeCounters_sampledWidth : (s.freeCounters).sampledWidth = s.sampledWidth := rfl
@[simp] theorem freeCounters_sampledHeight : (s.freeCounters).sampledHeight = s.sampledHeight := rfl
@[simp] theorem freeCounters_stream : (s.freeCounters).stream = s.stream := rfl
@[simp] theorem freeCounters_sinkHolds : (s.freeCounters).sinkHolds = s.sinkHolds := rfl
@[simp] theorem freeCounters_busReply : (s.freeCounters).busReply = s.busReply := rfl
@[simp] theorem freeCounters_turns : (s.freeCounters).turns = s.turns := rfl
@[simp] theorem freeCounters_sink : (s.freeCounters).sink = s.sink := rfl
@[simp] theorem freeCounters_draws : (s.freeCounters).draws = s.draws + 4 := rfl

end

/-! ### `initSession` -/

section
variable (s : State) (m : ColorMode) (expl : Bool)

@[simp] theorem initSession_ctrlIE : (s.initSession m expl).ctrlIE = s.ctrlIE := rfl
@[simp] theorem initSession_done : (s.initSession m expl).done = s.done := rfl
@[simp] theorem initSession_err : (s.initSession m expl).err = s.err := rfl
@[simp] theorem initSession_cmdOverrun : (s.initSession m expl).cmdOverrun = s.cmdOverrun := rfl
@[simp] theorem initSession_accConflict : (s.initSession m expl).accConflict = s.accConflict := rfl
@[simp] theorem initSession_incomplete : (s.initSession m expl).incomplete = s.incomplete := rfl
@[simp] theorem initSession_errcode : (s.initSession m expl).errcode = s.errcode := rfl
@[simp] theorem initSession_encState : (s.initSession m expl).encState = s.encState := rfl
@[simp] theorem initSession_encMode : (s.initSession m expl).encMode = m := rfl
@[simp] theorem initSession_cmd : (s.initSession m expl).cmd = s.cmd := rfl
@[simp] theorem initSession_width : (s.initSession m expl).width = s.width := rfl
@[simp] theorem initSession_height : (s.initSession m expl).height = s.height := rfl
@[simp] theorem initSession_mcuTotal : (s.initSession m expl).mcuTotal = mcuTotalOf s.sampledWidth.toNat s.sampledHeight.toNat := rfl
@[simp] theorem initSession_mcuCount : (s.initSession m expl).mcuCount = 0 := rfl
@[simp] theorem initSession_pred0 : (s.initSession m expl).pred0 = 0 := rfl
@[simp] theorem initSession_pred1 : (s.initSession m expl).pred1 = 0 := rfl
@[simp] theorem initSession_pred2 : (s.initSession m expl).pred2 = 0 := rfl
@[simp] theorem initSession_bitacc : (s.initSession m expl).bitacc = 0 := rfl
@[simp] theorem initSession_bitcnt : (s.initSession m expl).bitcnt = 0 := rfl
@[simp] theorem initSession_outCount : (s.initSession m expl).outCount = 0 := rfl
@[simp] theorem initSession_slots : (s.initSession m expl).slots = s.slots := rfl
@[simp] theorem initSession_written : (s.initSession m expl).written = s.written := rfl
@[simp] theorem initSession_qt : (s.initSession m expl).qt = s.qt := rfl
@[simp] theorem initSession_sqt : (s.initSession m expl).sqt = sessionTables expl s.qt := rfl
@[simp] theorem initSession_engine : (s.initSession m expl).engine = s.engine := rfl
@[simp] theorem initSession_sampledWidth : (s.initSession m expl).sampledWidth = s.sampledWidth := rfl
@[simp] theorem initSession_sampledHeight : (s.initSession m expl).sampledHeight = s.sampledHeight := rfl
@[simp] theorem initSession_stream : (s.initSession m expl).stream = [] := rfl
@[simp] theorem initSession_sinkHolds : (s.initSession m expl).sinkHolds = s.sinkHolds := rfl
@[simp] theorem initSession_busReply : (s.initSession m expl).busReply = s.busReply := rfl
@[simp] theorem initSession_turns : (s.initSession m expl).turns = s.turns := rfl
@[simp] theorem initSession_sink : (s.initSession m expl).sink = s.sink := rfl
@[simp] theorem initSession_draws : (s.initSession m expl).draws = s.draws := rfl

end

/-! ### `drawn` -/

section
variable (s : State) (k : Nat)

@[simp] theorem drawn_ctrlIE : (s.drawn k).ctrlIE = s.ctrlIE := rfl
@[simp] theorem drawn_done : (s.drawn k).done = s.done := rfl
@[simp] theorem drawn_err : (s.drawn k).err = s.err := rfl
@[simp] theorem drawn_cmdOverrun : (s.drawn k).cmdOverrun = s.cmdOverrun := rfl
@[simp] theorem drawn_accConflict : (s.drawn k).accConflict = s.accConflict := rfl
@[simp] theorem drawn_incomplete : (s.drawn k).incomplete = s.incomplete := rfl
@[simp] theorem drawn_errcode : (s.drawn k).errcode = s.errcode := rfl
@[simp] theorem drawn_encState : (s.drawn k).encState = s.encState := rfl
@[simp] theorem drawn_encMode : (s.drawn k).encMode = s.encMode := rfl
@[simp] theorem drawn_cmd : (s.drawn k).cmd = s.cmd := rfl
@[simp] theorem drawn_width : (s.drawn k).width = s.width := rfl
@[simp] theorem drawn_height : (s.drawn k).height = s.height := rfl
@[simp] theorem drawn_mcuTotal : (s.drawn k).mcuTotal = s.mcuTotal := rfl
@[simp] theorem drawn_mcuCount : (s.drawn k).mcuCount = s.mcuCount := rfl
@[simp] theorem drawn_pred0 : (s.drawn k).pred0 = s.pred0 := rfl
@[simp] theorem drawn_pred1 : (s.drawn k).pred1 = s.pred1 := rfl
@[simp] theorem drawn_pred2 : (s.drawn k).pred2 = s.pred2 := rfl
@[simp] theorem drawn_bitacc : (s.drawn k).bitacc = s.bitacc := rfl
@[simp] theorem drawn_bitcnt : (s.drawn k).bitcnt = s.bitcnt := rfl
@[simp] theorem drawn_outCount : (s.drawn k).outCount = s.outCount := rfl
@[simp] theorem drawn_slots : (s.drawn k).slots = s.slots := rfl
@[simp] theorem drawn_written : (s.drawn k).written = s.written := rfl
@[simp] theorem drawn_qt : (s.drawn k).qt = s.qt := rfl
@[simp] theorem drawn_sqt : (s.drawn k).sqt = s.sqt := rfl
@[simp] theorem drawn_engine : (s.drawn k).engine = s.engine := rfl
@[simp] theorem drawn_sampledWidth : (s.drawn k).sampledWidth = s.sampledWidth := rfl
@[simp] theorem drawn_sampledHeight : (s.drawn k).sampledHeight = s.sampledHeight := rfl
@[simp] theorem drawn_stream : (s.drawn k).stream = s.stream := rfl
@[simp] theorem drawn_sinkHolds : (s.drawn k).sinkHolds = s.sinkHolds := rfl
@[simp] theorem drawn_busReply : (s.drawn k).busReply = s.busReply := rfl
@[simp] theorem drawn_turns : (s.drawn k).turns = s.turns := rfl
@[simp] theorem drawn_sink : (s.drawn k).sink = s.sink := rfl
@[simp] theorem drawn_draws : (s.drawn k).draws = s.draws + k := rfl

end

/-! ### `clearStatus` -/

section
variable (s : State) (v : Word)

@[simp] theorem clearStatus_ctrlIE : (s.clearStatus v).ctrlIE = s.ctrlIE := rfl
@[simp] theorem clearStatus_done : (s.clearStatus v).done = (s.done && !v.getLsbD 1) := rfl
@[simp] theorem clearStatus_err : (s.clearStatus v).err = (s.err && !v.getLsbD 2) := rfl
@[simp] theorem clearStatus_cmdOverrun : (s.clearStatus v).cmdOverrun = (s.cmdOverrun && !v.getLsbD 3) := rfl
@[simp] theorem clearStatus_accConflict : (s.clearStatus v).accConflict = (s.accConflict && !v.getLsbD 4) := rfl
@[simp] theorem clearStatus_incomplete : (s.clearStatus v).incomplete = s.incomplete := rfl
@[simp] theorem clearStatus_errcode : (s.clearStatus v).errcode = s.errcode := rfl
@[simp] theorem clearStatus_encState : (s.clearStatus v).encState = s.encState := rfl
@[simp] theorem clearStatus_encMode : (s.clearStatus v).encMode = s.encMode := rfl
@[simp] theorem clearStatus_cmd : (s.clearStatus v).cmd = s.cmd := rfl
@[simp] theorem clearStatus_width : (s.clearStatus v).width = s.width := rfl
@[simp] theorem clearStatus_height : (s.clearStatus v).height = s.height := rfl
@[simp] theorem clearStatus_mcuTotal : (s.clearStatus v).mcuTotal = s.mcuTotal := rfl
@[simp] theorem clearStatus_mcuCount : (s.clearStatus v).mcuCount = s.mcuCount := rfl
@[simp] theorem clearStatus_pred0 : (s.clearStatus v).pred0 = s.pred0 := rfl
@[simp] theorem clearStatus_pred1 : (s.clearStatus v).pred1 = s.pred1 := rfl
@[simp] theorem clearStatus_pred2 : (s.clearStatus v).pred2 = s.pred2 := rfl
@[simp] theorem clearStatus_bitacc : (s.clearStatus v).bitacc = s.bitacc := rfl
@[simp] theorem clearStatus_bitcnt : (s.clearStatus v).bitcnt = s.bitcnt := rfl
@[simp] theorem clearStatus_outCount : (s.clearStatus v).outCount = s.outCount := rfl
@[simp] theorem clearStatus_slots : (s.clearStatus v).slots = s.slots := rfl
@[simp] theorem clearStatus_written : (s.clearStatus v).written = s.written := rfl
@[simp] theorem clearStatus_qt : (s.clearStatus v).qt = s.qt := rfl
@[simp] theorem clearStatus_sqt : (s.clearStatus v).sqt = s.sqt := rfl
@[simp] theorem clearStatus_engine : (s.clearStatus v).engine = s.engine := rfl
@[simp] theorem clearStatus_sampledWidth : (s.clearStatus v).sampledWidth = s.sampledWidth := rfl
@[simp] theorem clearStatus_sampledHeight : (s.clearStatus v).sampledHeight = s.sampledHeight := rfl
@[simp] theorem clearStatus_stream : (s.clearStatus v).stream = s.stream := rfl
@[simp] theorem clearStatus_sinkHolds : (s.clearStatus v).sinkHolds = s.sinkHolds := rfl
@[simp] theorem clearStatus_busReply : (s.clearStatus v).busReply = s.busReply := rfl
@[simp] theorem clearStatus_turns : (s.clearStatus v).turns = s.turns := rfl
@[simp] theorem clearStatus_sink : (s.clearStatus v).sink = s.sink := rfl
@[simp] theorem clearStatus_draws : (s.clearStatus v).draws = s.draws := rfl

end

/-! ### `takeAnswer` -/

section
variable (s : State)

@[simp] theorem takeAnswer_ctrlIE : s.takeAnswer.ctrlIE = s.ctrlIE := by unfold takeAnswer; split <;> rfl
@[simp] theorem takeAnswer_done : s.takeAnswer.done = s.done := by unfold takeAnswer; split <;> rfl
@[simp] theorem takeAnswer_err : s.takeAnswer.err = s.err := by unfold takeAnswer; split <;> rfl
@[simp] theorem takeAnswer_cmdOverrun : s.takeAnswer.cmdOverrun = s.cmdOverrun := by unfold takeAnswer; split <;> rfl
@[simp] theorem takeAnswer_accConflict : s.takeAnswer.accConflict = s.accConflict := by unfold takeAnswer; split <;> rfl
@[simp] theorem takeAnswer_incomplete : s.takeAnswer.incomplete = s.incomplete := by unfold takeAnswer; split <;> rfl
@[simp] theorem takeAnswer_errcode : s.takeAnswer.errcode = s.errcode := by unfold takeAnswer; split <;> rfl
@[simp] theorem takeAnswer_encState : s.takeAnswer.encState = s.encState := by unfold takeAnswer; split <;> rfl
@[simp] theorem takeAnswer_encMode : s.takeAnswer.encMode = s.encMode := by unfold takeAnswer; split <;> rfl
@[simp] theorem takeAnswer_cmd : s.takeAnswer.cmd = s.cmd := by unfold takeAnswer; split <;> rfl
@[simp] theorem takeAnswer_width : s.takeAnswer.width = s.width := by unfold takeAnswer; split <;> rfl
@[simp] theorem takeAnswer_height : s.takeAnswer.height = s.height := by unfold takeAnswer; split <;> rfl
@[simp] theorem takeAnswer_mcuTotal : s.takeAnswer.mcuTotal = s.mcuTotal := by unfold takeAnswer; split <;> rfl
@[simp] theorem takeAnswer_mcuCount : s.takeAnswer.mcuCount = s.mcuCount := by unfold takeAnswer; split <;> rfl
@[simp] theorem takeAnswer_pred0 : s.takeAnswer.pred0 = s.pred0 := by unfold takeAnswer; split <;> rfl
@[simp] theorem takeAnswer_pred1 : s.takeAnswer.pred1 = s.pred1 := by unfold takeAnswer; split <;> rfl
@[simp] theorem takeAnswer_pred2 : s.takeAnswer.pred2 = s.pred2 := by unfold takeAnswer; split <;> rfl
@[simp] theorem takeAnswer_bitacc : s.takeAnswer.bitacc = s.bitacc := by unfold takeAnswer; split <;> rfl
@[simp] theorem takeAnswer_bitcnt : s.takeAnswer.bitcnt = s.bitcnt := by unfold takeAnswer; split <;> rfl
@[simp] theorem takeAnswer_outCount : s.takeAnswer.outCount = s.outCount := by unfold takeAnswer; split <;> rfl
@[simp] theorem takeAnswer_slots : s.takeAnswer.slots = s.slots := by unfold takeAnswer; split <;> rfl
@[simp] theorem takeAnswer_written : s.takeAnswer.written = s.written := by unfold takeAnswer; split <;> rfl
@[simp] theorem takeAnswer_qt : s.takeAnswer.qt = s.qt := by unfold takeAnswer; split <;> rfl
@[simp] theorem takeAnswer_sqt : s.takeAnswer.sqt = s.sqt := by unfold takeAnswer; split <;> rfl
@[simp] theorem takeAnswer_engine : s.takeAnswer.engine = s.engine := by unfold takeAnswer; split <;> rfl
@[simp] theorem takeAnswer_sampledWidth : s.takeAnswer.sampledWidth = s.sampledWidth := by unfold takeAnswer; split <;> rfl
@[simp] theorem takeAnswer_sampledHeight : s.takeAnswer.sampledHeight = s.sampledHeight := by unfold takeAnswer; split <;> rfl
@[simp] theorem takeAnswer_stream : s.takeAnswer.stream = s.stream := by unfold takeAnswer; split <;> rfl
@[simp] theorem takeAnswer_sinkHolds : s.takeAnswer.sinkHolds = s.sinkHolds := by unfold takeAnswer; split <;> rfl
@[simp] theorem takeAnswer_busReply : s.takeAnswer.busReply = s.busReply := by unfold takeAnswer; split <;> rfl
@[simp] theorem takeAnswer_turns : s.takeAnswer.turns = s.turns := by unfold takeAnswer; split <;> rfl

end

/-! ### `finish` -/

section
variable (s : State) (fin : Finish)

@[simp] theorem finish_ctrlIE : (s.finish fin).ctrlIE = s.ctrlIE := by cases fin <;> rfl
@[simp] theorem finish_done : (s.finish fin).done = s.done := by cases fin <;> rfl
@[simp] theorem finish_err : (s.finish fin).err = s.err := by cases fin <;> rfl
@[simp] theorem finish_cmdOverrun : (s.finish fin).cmdOverrun = s.cmdOverrun := by cases fin <;> rfl
@[simp] theorem finish_accConflict : (s.finish fin).accConflict = s.accConflict := by cases fin <;> rfl
@[simp] theorem finish_incomplete : (s.finish fin).incomplete = s.incomplete := by cases fin <;> rfl
@[simp] theorem finish_errcode : (s.finish fin).errcode = s.errcode := by cases fin <;> rfl
@[simp] theorem finish_encMode : (s.finish fin).encMode = s.encMode := by cases fin <;> rfl
@[simp] theorem finish_cmd : (s.finish fin).cmd = s.cmd := by cases fin <;> rfl
@[simp] theorem finish_width : (s.finish fin).width = s.width := by cases fin <;> rfl
@[simp] theorem finish_height : (s.finish fin).height = s.height := by cases fin <;> rfl
@[simp] theorem finish_mcuTotal : (s.finish fin).mcuTotal = s.mcuTotal := by cases fin <;> rfl
@[simp] theorem finish_outCount : (s.finish fin).outCount = s.outCount := by cases fin <;> rfl
@[simp] theorem finish_slots : (s.finish fin).slots = s.slots := by cases fin <;> rfl
@[simp] theorem finish_written : (s.finish fin).written = s.written := by cases fin <;> rfl
@[simp] theorem finish_qt : (s.finish fin).qt = s.qt := by cases fin <;> rfl
@[simp] theorem finish_sqt : (s.finish fin).sqt = s.sqt := by cases fin <;> rfl
@[simp] theorem finish_engine : (s.finish fin).engine = s.engine := by cases fin <;> rfl
@[simp] theorem finish_sampledWidth : (s.finish fin).sampledWidth = s.sampledWidth := by cases fin <;> rfl
@[simp] theorem finish_sampledHeight : (s.finish fin).sampledHeight = s.sampledHeight := by cases fin <;> rfl
@[simp] theorem finish_stream : (s.finish fin).stream = s.stream := by cases fin <;> rfl
@[simp] theorem finish_sinkHolds : (s.finish fin).sinkHolds = s.sinkHolds := by cases fin <;> rfl
@[simp] theorem finish_busReply : (s.finish fin).busReply = s.busReply := by cases fin <;> rfl
@[simp] theorem finish_turns : (s.finish fin).turns = s.turns := by cases fin <;> rfl
@[simp] theorem finish_sink : (s.finish fin).sink = s.sink := by cases fin <;> rfl
@[simp] theorem finish_draws : (s.finish fin).draws = s.draws := by cases fin <;> rfl

end

/-! ### `afterReject` -/

section
variable (s : State) (fin : Finish)

@[simp] theorem afterReject_ctrlIE : (s.afterReject fin).ctrlIE = s.ctrlIE := by cases fin <;> rfl
@[simp] theorem afterReject_done : (s.afterReject fin).done = s.done := by cases fin <;> rfl
@[simp] theorem afterReject_err : (s.afterReject fin).err = s.err := by cases fin <;> rfl
@[simp] theorem afterReject_cmdOverrun : (s.afterReject fin).cmdOverrun = s.cmdOverrun := by cases fin <;> rfl
@[simp] theorem afterReject_accConflict : (s.afterReject fin).accConflict = s.accConflict := by cases fin <;> rfl
@[simp] theorem afterReject_incomplete : (s.afterReject fin).incomplete = s.incomplete := by cases fin <;> rfl
@[simp] theorem afterReject_errcode : (s.afterReject fin).errcode = s.errcode := by cases fin <;> rfl
@[simp] theorem afterReject_encState : (s.afterReject fin).encState = s.encState := by cases fin <;> rfl
@[simp] theorem afterReject_encMode : (s.afterReject fin).encMode = s.encMode := by cases fin <;> rfl
@[simp] theorem afterReject_cmd : (s.afterReject fin).cmd = s.cmd := by cases fin <;> rfl
@[simp] theorem afterReject_width : (s.afterReject fin).width = s.width := by cases fin <;> rfl
@[simp] theorem afterReject_height : (s.afterReject fin).height = s.height := by cases fin <;> rfl
@[simp] theorem afterReject_mcuTotal : (s.afterReject fin).mcuTotal = s.mcuTotal := by cases fin <;> rfl
@[simp] theorem afterReject_outCount : (s.afterReject fin).outCount = s.outCount := by cases fin <;> rfl
@[simp] theorem afterReject_slots : (s.afterReject fin).slots = s.slots := by cases fin <;> rfl
@[simp] theorem afterReject_written : (s.afterReject fin).written = s.written := by cases fin <;> rfl
@[simp] theorem afterReject_qt : (s.afterReject fin).qt = s.qt := by cases fin <;> rfl
@[simp] theorem afterReject_sqt : (s.afterReject fin).sqt = s.sqt := by cases fin <;> rfl
@[simp] theorem afterReject_engine : (s.afterReject fin).engine = s.engine := by cases fin <;> rfl
@[simp] theorem afterReject_sampledWidth : (s.afterReject fin).sampledWidth = s.sampledWidth := by cases fin <;> rfl
@[simp] theorem afterReject_sampledHeight : (s.afterReject fin).sampledHeight = s.sampledHeight := by cases fin <;> rfl
@[simp] theorem afterReject_stream : (s.afterReject fin).stream = s.stream := by cases fin <;> rfl
@[simp] theorem afterReject_sinkHolds : (s.afterReject fin).sinkHolds = s.sinkHolds := by cases fin <;> rfl
@[simp] theorem afterReject_busReply : (s.afterReject fin).busReply = s.busReply := by cases fin <;> rfl
@[simp] theorem afterReject_turns : (s.afterReject fin).turns = s.turns := by cases fin <;> rfl
@[simp] theorem afterReject_sink : (s.afterReject fin).sink = s.sink := by cases fin <;> rfl

end

end Sys2Proof.Machine.State
end

