-- ==== Sys2Proof/Laws/Ops.lean ====
section
/-! SUPPORT. What the shared operations do, each said once: the RAMs, the sink's answers and `offer`. -/

namespace Sys2Proof.Machine

namespace State

/-! ### The block buffer -/

@[simp] theorem slot_setSlot_same (s : State) (n : OpField) (b : Block) : (s.setSlot n b).slot n = b := by
  simp [slot]

theorem slot_setSlot_other (s : State) {n m : OpField} (b : Block) (h : m ≠ n) : (s.setSlot n b).slot m = s.slot m := by
  have h' : n.val ≠ m.val := fun e => h (Fin.ext e.symm)
  simp [slot, Vector.getElem_set_ne, h']

theorem slotWritten_iff (s : State) (n : OpField) : s.slotWritten n = true ↔ ∀ i : Fin 64, s.written[n][i] = true :=
  decide_eq_true_iff

@[simp] theorem slotWritten_setSlot_same (s : State) (n : OpField) (b : Block) : (s.setSlot n b).slotWritten n = true := by
  simp [slotWritten_iff]

@[simp] theorem slotWritten_drawn (s : State) (k : Nat) (n : OpField) : (s.drawn k).slotWritten n = s.slotWritten n := rfl

/-- A free choice is one of its two outcomes, after one draw. -/
theorem freeChoice_cases (s : State) (a b : State → State) :
    s.freeChoice a b = a (s.drawn 1) ∨ s.freeChoice a b = b (s.drawn 1) := by
  unfold freeChoice; split
  · exact .inl rfl
  · exact .inr rfl

/-! ### The sink's answers -/

theorem answer_of_sink {s : State} {a : SinkAnswer} {rest : List SinkAnswer} (h : s.sink = a :: rest) : s.answer = a := by
  simp [answer, h]

theorem takeAnswer_of_sink {s : State} {a : SinkAnswer} {rest : List SinkAnswer} (h : s.sink = a :: rest) :
    s.takeAnswer = { s with sink := rest } := by
  simp [takeAnswer, h]

/-- The state after the sink has accepted the bytes `bs`, one answer each. -/
def afterSent (s : State) : List Byte → State
  | [] => s
  | b :: rest => (s.takeAnswer.appendByte b).afterSent rest

@[simp] theorem afterSent_nil (s : State) : s.afterSent [] = s := rfl

@[simp] theorem afterSent_cons (s : State) (b : Byte) (bs : List Byte) :
    s.afterSent (b :: bs) = (s.takeAnswer.appendByte b).afterSent bs := rfl

theorem afterSent_append (s : State) (as bs : List Byte) : s.afterSent (as ++ bs) = (s.afterSent as).afterSent bs := by
  induction as generalizing s with
  | nil => rfl
  | cons a as ih => simp [ih]

section
variable (s : State) (bs : List Byte)

@[simp] theorem afterSent_stream : (s.afterSent bs).stream = s.stream ++ bs := by
  induction bs generalizing s with
  | nil => simp
  | cons b bs ih => simp [ih]

@[simp] theorem afterSent_sinkHolds : (s.afterSent bs).sinkHolds = s.sinkHolds ++ bs := by
  induction bs generalizing s with
  | nil => simp
  | cons b bs ih => simp [ih]

@[simp] theorem afterSent_outCount : (s.afterSent bs).outCount = s.outCount + BitVec.ofNat 32 bs.length := by
  induction bs generalizing s with
  | nil => simp
  | cons b bs ih => rw [afterSent_cons, ih]; simp [BitVec.ofNat_add]; ac_rfl

end

/-- Accepting bytes changes the stream, what the sink holds, `OUT_COUNT`, the answers left and the draws, and nothing else. -/
theorem afterSent_frame (s : State) (bs : List Byte) :
    s.afterSent bs = { s with
      outCount := (s.afterSent bs).outCount, stream := (s.afterSent bs).stream, sinkHolds := (s.afterSent bs).sinkHolds,
      sink := (s.afterSent bs).sink, draws := (s.afterSent bs).draws } := by
  induction bs generalizing s with
  | nil => rfl
  | cons b bs ih =>
      rw [afterSent_cons, ih]
      cases h : s.sink <;> simp [takeAnswer, h, appendByte]

/-- With that many accepting answers listed, accepting the bytes uses exactly those. -/
theorem afterSent_of_accepts {s : State} {bs : List Byte} {rest : List SinkAnswer}
    (h : s.sink = List.replicate bs.length .accept ++ rest) :
    s.afterSent bs = { s with
      outCount := s.outCount + BitVec.ofNat 32 bs.length, stream := s.stream ++ bs, sinkHolds := s.sinkHolds ++ bs,
      sink := rest } := by
  induction bs generalizing s with
  | nil => simp at h; simp [← h]
  | cons b bs ih =>
      have h1 : s.sink = .accept :: (List.replicate bs.length .accept ++ rest) := by simpa [List.replicate_succ] using h
      rw [afterSent_cons, takeAnswer_of_sink h1, ih (by simp)]
      simp [appendByte, BitVec.ofNat_add]; ac_rfl

/-! ### Offering bytes -/

/-- Everything `offer` can do: all bytes are accepted and the command completes; or the sink rejects a byte and the command ends
with `IO`; or the sink stalls on a byte and the engine holds it. -/
theorem offer_cases (s : State) (fin : Finish) (bytes : List Byte) :
    s.offer fin bytes = ((s.afterSent bytes).finish fin).complete .none ∨
    ∃ sent b rest, bytes = sent ++ b :: rest ∧
      ((s.afterSent sent).answer = .reject ∧
        s.offer fin bytes = ((s.afterSent sent).takeAnswer.afterReject fin).failEncoder .io ∨
       (s.afterSent sent).answer = .stall ∧
        s.offer fin bytes = { (s.afterSent sent).takeAnswer with engine := .offering b rest fin }) := by
  induction bytes generalizing s with
  | nil => exact .inl rfl
  | cons b bs ih =>
      rw [offer]
      cases ha : s.answer with
      | accept =>
          rcases ih (s.takeAnswer.appendByte b) with h | ⟨sent, c, rest, rfl, h⟩
          · exact .inl h
          · exact .inr ⟨b :: sent, c, rest, rfl, h⟩
      | reject => exact .inr ⟨[], b, bs, rfl, .inl ⟨ha, rfl⟩⟩
      | stall => exact .inr ⟨[], b, bs, rfl, .inr ⟨ha, rfl⟩⟩

/-- A sink that accepts the first bytes: `offer` goes on from there. -/
theorem offer_append {s : State} {fin : Finish} {sent rest : List Byte} {answers : List SinkAnswer}
    (h : s.sink = List.replicate sent.length .accept ++ answers) :
    s.offer fin (sent ++ rest) = (s.afterSent sent).offer fin rest := by
  induction sent generalizing s with
  | nil => rfl
  | cons b bs ih =>
      have h1 : s.sink = .accept :: (List.replicate bs.length .accept ++ answers) := by simpa [List.replicate_succ] using h
      rw [List.cons_append, offer, answer_of_sink h1, afterSent_cons]
      exact ih (by simp [takeAnswer_of_sink h1])

/-- A sink that accepts every byte: the command completes. -/
theorem offer_of_accepts {s : State} {fin : Finish} {bytes : List Byte} {rest : List SinkAnswer}
    (h : s.sink = List.replicate bytes.length .accept ++ rest) :
    s.offer fin bytes = (({ s with
      outCount := s.outCount + BitVec.ofNat 32 bytes.length, stream := s.stream ++ bytes,
      sinkHolds := s.sinkHolds ++ bytes, sink := rest } : State).finish fin).complete .none := by
  have := offer_append (fin := fin) (rest := []) h
  rw [List.append_nil] at this
  rw [this, offer, afterSent_of_accepts h]

/-- How `offer` ends: the command completes without error or with `IO`, or the engine holds a byte and the status and `ENC_STATE`
are as before. -/
theorem offer_status (s : State) (fin : Finish) (bytes : List Byte) :
    ((s.offer fin bytes).engine = .idle ∧ (s.offer fin bytes).done = true ∧
      ((s.offer fin bytes).errcode = .none ∧ (s.offer fin bytes).err = s.err ∧
         (s.offer fin bytes).encState = (s.finish fin).encState ∨
       (s.offer fin bytes).errcode = .io ∧ (s.offer fin bytes).err = true ∧ (s.offer fin bytes).encState = .error)) ∨
    ((∃ b rest, (s.offer fin bytes).engine = .offering b rest fin) ∧ (s.offer fin bytes).done = s.done ∧
      (s.offer fin bytes).err = s.err ∧ (s.offer fin bytes).errcode = s.errcode ∧
      (s.offer fin bytes).encState = s.encState) := by
  have hf : ∀ bs, (s.afterSent bs).err = s.err ∧ (s.afterSent bs).done = s.done ∧ (s.afterSent bs).errcode = s.errcode ∧
      (s.afterSent bs).encState = s.encState := by
    intro bs; rw [afterSent_frame]; simp
  rcases s.offer_cases fin bytes with h | ⟨sent, b, rest, _, ⟨_, h⟩ | ⟨_, h⟩⟩ <;> rw [h]
  · left; cases fin <;> simp [finish, complete, hf]
  · left; simp [failEncoder, complete]
  · right
    have := hf sent
    generalize s.afterSent sent = u at *
    refine ⟨⟨b, rest, rfl⟩, ?_⟩
    unfold takeAnswer; split <;> simpa using ⟨this.2.1, this.1, this.2.2⟩

/-- What `offer` never changes, however the sink answers: the host's registers, the RAMs, the session's tables and mode, the
turns. -/
theorem offer_frame (s : State) (fin : Finish) (bytes : List Byte) :
    s.offer fin bytes = { s.offer fin bytes with
      ctrlIE := s.ctrlIE, cmdOverrun := s.cmdOverrun, accConflict := s.accConflict, incomplete := s.incomplete,
      encMode := s.encMode, cmd := s.cmd, width := s.width, height := s.height, mcuTotal := s.mcuTotal,
      slots := s.slots, written := s.written, qt := s.qt, sqt := s.sqt, sampledWidth := s.sampledWidth, sampledHeight := s.sampledHeight,
      busReply := s.busReply, turns := s.turns } := by
  induction bytes generalizing s with
  | nil => cases fin <;> rfl
  | cons b bs ih =>
      rw [offer]
      cases s.answer with
      | accept => simpa using ih (s.takeAnswer.appendByte b)
      | reject => cases fin <;> cases h : s.sink <;> simp [takeAnswer, h, afterReject, freeCounters, freeBitstate, failEncoder, complete]
      | stall => cases h : s.sink <;> simp [takeAnswer, h]

end State

end Sys2Proof.Machine
end

