-- ==== Sys2Proof/Laws/Exec.lean ====
section
/-! SUPPORT. What a command can do, said once: the commands outside the encoder only write RAM and complete; an encoder command
completes with an error or offers its bytes. And what a step can do. -/

namespace Sys2Proof.Machine

/-! ### Operand checks -/

@[simp] theorem slotOk_eq (s : OpField) : slotOk s = true := by
  have := s.isLt; simp [slotOk, Config.nslots]

theorem fourSlotsOk_iff (b : OpField) : fourSlotsOk b = true ↔ b.val < 13 := by
  unfold fourSlotsOk Config.nslots; rw [decide_eq_true_iff]; omega

theorem tableOk_iff (t : OpField) : tableOk t = true ↔ t.val < 2 := by
  unfold tableOk; rw [decide_eq_true_iff]; omega

theorem samplesOk_iff (b : Block) : samplesOk b = true ↔ Samples b := decide_eq_true_iff

theorem factorsOk_iff (t : Table) : factorsOk t = true ↔ ∀ i : Fin 64, t[i] ≠ 0 := decide_eq_true_iff

theorem baseEntriesOk_iff (b : Block) : baseEntriesOk b = true ↔ ∀ i : Fin 64, 1 ≤ b[i].toInt ∧ b[i].toInt ≤ 255 :=
  decide_eq_true_iff

theorem slotPlus_val {b : OpField} (h : b.val < 13) (k : Fin 4) : (slotPlus b k).val = b.val + k.val := by
  have := k.isLt; simp only [slotPlus]; omega

/-! ### Commands -/

/-- `t` differs from `s` at most in the two RAMs the host can reach, in which slot entries have been written, and in the draws. -/
def RamsOnly (s t : State) : Prop := t = { s with slots := t.slots, written := t.written, qt := t.qt, draws := t.draws }

theorem RamsOnly.trans {s t u : State} (h : RamsOnly s t) (h' : RamsOnly t u) : RamsOnly s u := by
  cases s; cases t; cases u; simp_all [RamsOnly]

theorem ramsOnly_drawn (s : State) (k : Nat) : RamsOnly s (s.drawn k) := rfl
theorem ramsOnly_setSlot (s : State) (n : OpField) (b : Block) : RamsOnly s (s.setSlot n b) := rfl
theorem ramsOnly_setQt (s : State) (t : Fin 2) (b : Table) : RamsOnly s (s.setQt t b) := rfl
theorem ramsOnly_setQt_setQt (s : State) (b c : Table) : RamsOnly s ((s.setQt 0 b).setQt 1 c) := rfl
theorem ramsOnly_setQuadrants (s : State) (n : OpField) (q : Vector Block 4) : RamsOnly s (s.setQuadrants n q) := rfl
theorem ramsOnly_setFreeSlot (s : State) (n : OpField) : RamsOnly s (s.setFreeSlot n) := rfl
theorem ramsOnly_drawn_setFreeSlot (s : State) (n : OpField) : RamsOnly s ((s.drawn 1).setFreeSlot n) := rfl
theorem ramsOnly_drawn_setFreeQt (s : State) (t : Fin 2) : RamsOnly s ((s.drawn 1).setFreeQt t) := rfl
theorem ramsOnly_drawn_setFreeQuadrants (s : State) (n : OpField) : RamsOnly s ((s.drawn 1).setFreeQuadrants n) :=
  (ramsOnly_drawn s 1).trans ((ramsOnly_setQuadrants _ _ _).trans (ramsOnly_drawn _ 256))

/-- How a command outside the encoder ends: with an error it has written nothing but its draws, without one at most RAM entries. -/
def BufferResult (s t : State) : Prop :=
  ∃ slots written qt draws code,
    t = ({ s with slots := slots, written := written, qt := qt, draws := draws } : State).complete code ∧
    (code ≠ .none → slots = s.slots ∧ written = s.written ∧ qt = s.qt)

theorem bufferResult_fail (s : State) (code : ErrorCode) : BufferResult s (s.complete code) :=
  ⟨s.slots, s.written, s.qt, s.draws, code, rfl, fun _ => ⟨rfl, rfl, rfl⟩⟩

theorem bufferResult_ok {s t : State} (h : RamsOnly s t) : BufferResult s (t.complete .none) :=
  ⟨t.slots, t.written, t.qt, t.draws, .none, by rw [← (show t = _ from h)], fun hc => absurd rfl hc⟩

theorem bufferResult_ite {s a b : State} (c : Bool) (ha : BufferResult s a) (hb : BufferResult s b) :
    BufferResult s (if c then a else b) := by
  cases c
  · exact hb
  · exact ha

theorem bufferResult_choice {s : State} (code : ErrorCode) {f : State → State} (h : RamsOnly s (f (s.drawn 1))) :
    BufferResult s (s.freeChoice (·.complete code) fun u => (f u).complete .none) := by
  rcases s.freeChoice_cases (·.complete code) fun u => (f u).complete .none with e | e <;> rw [e]
  · exact ⟨s.slots, s.written, s.qt, s.draws + 1, code, rfl, fun _ => ⟨rfl, rfl, rfl⟩⟩
  · exact bufferResult_ok h

/-- A command outside the encoder writes at most RAM entries, and only where it completes without error. -/
theorem exec_buffer (i : Instr) (s : State) (h : IsEncoder i = false) : ∃ t, exec i s = .next t ∧ BufferResult s t := by
  cases i with
  | fdct d a =>
      exact ⟨_, rfl, bufferResult_ite _ (bufferResult_fail s _) (bufferResult_ite _
        (bufferResult_choice _ (ramsOnly_drawn_setFreeSlot s d)) (bufferResult_ite _ (bufferResult_fail s _)
          (bufferResult_ok (ramsOnly_setSlot s d _))))⟩
  | idct d a =>
      exact ⟨_, rfl, bufferResult_ite _ (bufferResult_fail s _) (bufferResult_ite _
        (bufferResult_ok (ramsOnly_setFreeSlot s d)) (bufferResult_ok (ramsOnly_setSlot s d _)))⟩
  | qbuild t a bsel q =>
      exact ⟨_, rfl, bufferResult_ite _ (bufferResult_fail s _) (bufferResult_ite _ (bufferResult_fail s _) (bufferResult_ite _
        (bufferResult_choice _ (ramsOnly_drawn_setFreeQt s (tableIndex t))) (bufferResult_ite _ (bufferResult_fail s _)
          (bufferResult_ok (ramsOnly_setQt s _ _)))))⟩
  | qbuildp q => exact ⟨_, rfl, bufferResult_ite _ (bufferResult_fail s _) (bufferResult_ok (ramsOnly_setQt_setQt s _ _))⟩
  | quant d a t =>
      exact ⟨_, rfl, bufferResult_ite _ (bufferResult_fail s _) (bufferResult_ite _ (bufferResult_fail s _) (bufferResult_ite _
        (bufferResult_ok (ramsOnly_setFreeSlot s d)) (bufferResult_ok (ramsOnly_setSlot s d _))))⟩
  | downs d b =>
      exact ⟨_, rfl, bufferResult_ite _ (bufferResult_fail s _) (bufferResult_ite _
        (bufferResult_choice _ (ramsOnly_drawn_setFreeSlot s d)) (bufferResult_ite _ (bufferResult_fail s _)
          (bufferResult_ok (ramsOnly_setSlot s d _))))⟩
  | ups b a =>
      exact ⟨_, rfl, bufferResult_ite _ (bufferResult_fail s _) (bufferResult_ite _
        (bufferResult_choice _ (ramsOnly_drawn_setFreeQuadrants s b)) (bufferResult_ite _ (bufferResult_fail s _)
          (bufferResult_ok (ramsOnly_setQuadrants s b _))))⟩
  | encrst _ _ => cases h
  | encblk1 _ => cases h
  | encblk3 _ _ _ => cases h
  | encfin => cases h

/-- `ENCRST` fails with `CONFIGURATION`, or sets up a session and offers its header. -/
theorem exec_encrst_cases (expl : Bool) (mode : Fin 4) (s : State) :
    exec (.encrst expl mode) s = .next (({ s with incomplete := false } : State).failEncoder .configuration) ∨
    ∃ m, colorMode mode = some m ∧ dimensionOk s.sampledWidth = true ∧ dimensionOk s.sampledHeight = true ∧
      (expl = true → explicitTablesOk m s.qt = true) ∧
      exec (.encrst expl mode) s = .next
        ((({ s with incomplete := false } : State).initSession m expl).offer .openSession
          (({ s with incomplete := false } : State).initSession m expl).sessionHeader) := by
  simp only [exec, execEncrst]
  cases hm : colorMode mode with
  | none => exact .inl rfl
  | some m =>
      dsimp only
      split
      · exact .inl rfl
      · split
        · exact .inl rfl
        · rename_i h1 h2
          refine .inr ⟨m, rfl, ?_, ?_, ?_, rfl⟩ <;> simp_all

/-- The codes of a block that may be coded, with the value its predictor takes: what a block command knows of `prepareBlock`. -/
theorem prepareBlock_some {b : Block} {t : Table} {pred : S16} {p : Prepared} (h : prepareBlock b t pred = some p) :
    p = { dc := (zigzag b t)[0], diff := (zigzag b t)[0] - pred.toInt, ac := (zigzag b t).toList.tail } ∧
      category p.diff ≤ 11 ∧ ∀ v ∈ p.ac, category v ≤ 10 := by
  unfold prepareBlock at h
  simp only at h
  split at h
  · rename_i hc; cases h; exact ⟨rfl, hc⟩
  · cases h

/-- `ENCBLK1` fails, or offers the bytes its codes complete: the codes of its block, or free ones if the slot is unwritten. -/
theorem exec_encblk1_cases (a : OpField) (s : State) :
    (∃ code, (code = .sequencing ∨ code = .configuration ∨ code = .dataRange) ∧
      ∃ k, exec (.encblk1 a) s = .next ((s.drawn k).failEncoder code)) ∨
    (s.encState = .ready ∧ s.encMode = .gray ∧ s.mcuCount.toNat < s.mcuTotal.toNat ∧
      (s.slotWritten a = false ∧ exec (.encblk1 a) s = .next ((s.drawn 1).emitFree lumaBits false) ∨
       s.slotWritten a = true ∧ ∃ p, prepareBlock (s.slot a) s.sqt[0] s.pred0 = some p ∧
        exec (.encblk1 a) s = .next (s.emitBlocks (codeBlock p .luma) (BitVec.ofInt 16 p.dc) s.pred1 s.pred2))) := by
  simp only [exec, execEncblk1, slotOk_eq, Bool.not_true, Bool.false_eq_true, if_false]
  split
  · exact .inl ⟨.sequencing, by simp, 0, rfl⟩
  · split
    · exact .inl ⟨.configuration, by simp, 0, rfl⟩
    · split
      · exact .inl ⟨.sequencing, by simp, 0, rfl⟩
      · rename_i h1 h2 h3
        have hopen : s.encState = .ready ∧ s.encMode = .gray ∧ s.mcuCount.toNat < s.mcuTotal.toNat := by
          refine ⟨by simpa using h1, by simpa using h2, by simpa [State.imageComplete] using h3⟩
        split
        · rename_i hw
          rcases s.freeChoice_cases (·.failEncoder .dataRange) (·.emitFree lumaBits false) with e | e <;> rw [e]
          · exact .inl ⟨.dataRange, by simp, 1, rfl⟩
          · exact .inr ⟨hopen.1, hopen.2.1, hopen.2.2, .inl ⟨by simpa using hw, rfl⟩⟩
        · rename_i hw
          cases hp : prepareBlock (s.slot a) s.sqt[0] s.pred0 with
          | none => exact .inl ⟨.dataRange, by simp, 0, rfl⟩
          | some p => exact .inr ⟨hopen.1, hopen.2.1, hopen.2.2, .inr ⟨by simpa using hw, p, rfl, rfl⟩⟩

/-- `ENCBLK3` fails, or offers the bytes its codes complete: the codes of its blocks, or free ones if a slot is unwritten. -/
theorem exec_encblk3_cases (a b c : OpField) (s : State) :
    (∃ code, (code = .sequencing ∨ code = .configuration ∨ code = .dataRange) ∧
      ∃ k, exec (.encblk3 a b c) s = .next ((s.drawn k).failEncoder code)) ∨
    (s.encState = .ready ∧ s.encMode = .ycc444 ∧ s.mcuCount.toNat < s.mcuTotal.toNat ∧
      ((s.slotWritten a && s.slotWritten b && s.slotWritten c) = false ∧
          exec (.encblk3 a b c) s = .next ((s.drawn 1).emitFree (lumaBits + 2 * chromaBits) true) ∨
       (s.slotWritten a && s.slotWritten b && s.slotWritten c) = true ∧
        ∃ pY pB pR, prepareBlock (s.slot a) s.sqt[0] s.pred0 = some pY ∧ prepareBlock (s.slot b) s.sqt[1] s.pred1 = some pB ∧
        prepareBlock (s.slot c) s.sqt[1] s.pred2 = some pR ∧
        exec (.encblk3 a b c) s = .next (s.emitBlocks (codeBlock pY .luma ++ codeBlock pB .chroma ++ codeBlock pR .chroma)
          (BitVec.ofInt 16 pY.dc) (BitVec.ofInt 16 pB.dc) (BitVec.ofInt 16 pR.dc)))) := by
  simp only [exec, execEncblk3, slotOk_eq, Bool.and_self, Bool.not_true, Bool.false_eq_true, if_false]
  split
  · exact .inl ⟨.sequencing, by simp, 0, rfl⟩
  · split
    · exact .inl ⟨.configuration, by simp, 0, rfl⟩
    · split
      · exact .inl ⟨.sequencing, by simp, 0, rfl⟩
      · rename_i h1 h2 h3
        have hopen : s.encState = .ready ∧ s.encMode = .ycc444 ∧ s.mcuCount.toNat < s.mcuTotal.toNat := by
          refine ⟨by simpa using h1, by simpa using h2, by simpa [State.imageComplete] using h3⟩
        generalize (s.slotWritten a && s.slotWritten b && s.slotWritten c) = w
        cases w
        · rcases s.freeChoice_cases (·.failEncoder .dataRange) (·.emitFree (lumaBits + 2 * chromaBits) true) with e | e
          · exact .inl ⟨.dataRange, by simp, 1, congrArg _ e⟩
          · exact .inr ⟨hopen.1, hopen.2.1, hopen.2.2, .inl ⟨rfl, congrArg _ e⟩⟩
        · simp only [Bool.not_true, Bool.false_eq_true, if_false]
          split
          · rename_i pY pB pR hY hB hR
            exact .inr ⟨hopen.1, hopen.2.1, hopen.2.2, .inr ⟨by simp, pY, pB, pR, hY, hB, hR, rfl⟩⟩
          · exact .inl ⟨.dataRange, by simp, 0, rfl⟩

/-- `ENCFIN` offers the flushed bits and EOI from `READY`, and only closes otherwise. -/
theorem exec_encfin_cases (s : State) :
    (s.encState = .ready ∧ exec .encfin s = .next
      (({ s with incomplete := decide (s.mcuCount.toNat < s.mcuTotal.toNat), bitacc := 0, bitcnt := 0 } : State).offer .closeSession
        (flushBytes s.bitacc s.bitcnt ++ eoi))) ∨
    (s.encState ≠ .ready ∧ exec .encfin s = .next (({ s with encState := .closed } : State).complete .none)) := by
  by_cases h : s.encState = .ready
  · exact .inl ⟨h, by simp [exec, execEncfin, h]⟩
  · exact .inr ⟨h, by simp [exec, execEncfin, h]⟩

/-- A command always answers a next state. -/
theorem exec_next (i : Instr) (s : State) : ∃ t, exec i s = .next t := by
  cases i <;> exact ⟨_, rfl⟩

/-! ### Tables and the bit buffer -/

/-- A built table holds no 0 (R135 (a)). -/
theorem buildTable_ne_zero (B : Vector Nat 64) (q : Nat) (i : Fin 64) : (buildTable B q)[i] ≠ 0 := by
  simp only [buildTable, Fin.getElem_fin, Vector.getElem_map, tableEntry]
  generalize (B[i.val] * qualityScale q + 50) / 100 = n
  intro h
  have := congrArg BitVec.toNat h
  rw [BitVec.toNat_ofNat, show (0 : Byte).toNat = 0 from rfl] at this
  omega

/-- One bit keeps the bits above the count 0 (R43). -/
theorem putBit_bitsLegal {p : Packer} (bit : Bool) (h : State.bitsLegal p.acc p.cnt) :
    State.bitsLegal (p.putBit bit).acc (p.putBit bit).cnt := by
  rcases putBit_cases p bit with ⟨_, h'⟩ | ⟨hc, h'⟩ <;> rw [h']
  · simp [State.bitsLegal]
  · unfold State.bitsLegal at *
    have h7 : p.cnt.val ≠ 7 := fun e => hc (Fin.ext e)
    have hv : (p.cnt + 1).val = p.cnt.val + 1 := by have := p.cnt.isLt; rw [Fin.val_add]; simp; omega
    simp only [hv]
    rw [BitVec.shiftConcat, BitVec.toNat_setWidth, BitVec.toNat_concat, pow_succ]
    refine lt_of_le_of_lt (Nat.mod_le _ _) ?_
    have : bit.toNat ≤ 1 := Bool.toNat_le bit
    omega

/-- Calls of `PutBits` keep the bits above the count 0 (R43). -/
theorem putAll_bitsLegal {p : Packer} (bs : List Bits) (h : State.bitsLegal p.acc p.cnt) :
    State.bitsLegal (p.putAll bs).acc (p.putAll bs).cnt := by
  rw [putAll_eq_foldl]
  generalize bs.flatMap Bits.toBools = l
  induction l generalizing p with
  | nil => exact h
  | cons b l ih => exact ih (putBit_bitsLegal b h)

/-! ### Turns -/

/-- Everything the engine's move can be: nothing, a rejected word's completion, a command, or one more offer. -/
theorem engineTurn_cases (s : State) :
    (s.engine = .idle ∧ s.engineTurn = .next s) ∨
    (s.engine = .accepted ∧ (∃ i, decode s.cmd = .ok i ∧ s.engineTurn = exec i s) ∨
      s.engine = .accepted ∧ (∃ r, decode s.cmd = .error r ∧ s.engineTurn = .next (s.complete .illegalCmd))) ∨
    ∃ b rest fin, s.engine = .offering b rest fin ∧ s.engineTurn = .next (s.offer fin (b :: rest)) := by
  unfold State.engineTurn
  cases he : s.engine with
  | idle => exact .inl ⟨rfl, rfl⟩
  | accepted =>
      cases hd : decode s.cmd with
      | ok i => exact .inr (.inl (.inl ⟨rfl, i, rfl, rfl⟩))
      | error r => exact .inr (.inl (.inr ⟨rfl, r, rfl, rfl⟩))
  | offering b rest fin => exact .inr (.inr ⟨b, rest, fin, rfl, rfl⟩)

/-- What a host access can never change: everything but the bus's answer, the draws, the enable, the four flags, the command and
its samples, the dimensions, and the two RAMs. -/
theorem hostAccess_frame (s : State) (a : HostAccess) :
    s.hostAccess a = { s with
      busReply := (s.hostAccess a).busReply, draws := (s.hostAccess a).draws, ctrlIE := (s.hostAccess a).ctrlIE,
      done := (s.hostAccess a).done, err := (s.hostAccess a).err, cmdOverrun := (s.hostAccess a).cmdOverrun,
      accConflict := (s.hostAccess a).accConflict, cmd := (s.hostAccess a).cmd, engine := (s.hostAccess a).engine,
      sampledWidth := (s.hostAccess a).sampledWidth, sampledHeight := (s.hostAccess a).sampledHeight,
      width := (s.hostAccess a).width, height := (s.hostAccess a).height, slots := (s.hostAccess a).slots,
      written := (s.hostAccess a).written, qt := (s.hostAccess a).qt } := by
  cases a with
  | read off bytes =>
      simp only [State.hostAccess, State.hostRead]
      split
      · split <;> rfl
      · rfl
  | write off bytes v =>
      simp only [State.hostAccess, State.hostWrite]
      split
      · split
        · rfl
        · split
          · rfl
          · cases locate off <;> rfl
      · rfl

/-- One turn of `WAIT` is the host's read of `STATUS`, which answers the status word, and puts the engine's move and one more turn
of `WAIT` first while the engine is busy. -/
theorem hostPoll_eq (s : State) :
    s.hostPoll = { s with
      busReply := .data s.statusWord, turns := if s.busy then .engine :: .wait :: s.turns else s.turns } := by
  have hl : locate 0x00C = .status := by decide
  have hr : s.hostAccess (.read 0x00C 4) = { s with busReply := .data s.statusWord } := by
    rw [State.hostAccess, if_pos (by decide), hl]
    simp [State.hostRead, State.freeWhileBusy, State.conflicts, State.readIdle]
  have hb : s.statusWord.getLsbD 0 = s.busy := by
    unfold State.statusWord; rw [BitVec.getLsbD_append]; simp
  simp only [State.hostPoll, hr, State.showsBusy, hb]
  cases s.busy <;> rfl

/-- A host access leaves the engine as it is, or makes an idle engine accept a word. -/
theorem hostAccess_engine (s : State) (a : HostAccess) :
    (s.hostAccess a).engine = s.engine ∨ s.engine = .idle ∧ (s.hostAccess a).engine = .accepted := by
  cases a with
  | read off bytes =>
      left; simp only [State.hostAccess, State.hostRead]
      split
      · split <;> rfl
      · rfl
  | write off bytes v =>
      simp only [State.hostAccess, State.hostWrite]
      split
      · split
        · exact .inl rfl
        · split
          · exact .inl rfl
          · rename_i h1 h2
            cases hl : locate off <;> first | exact .inl rfl | skip
            right
            refine ⟨?_, rfl⟩
            simpa [State.busy, hl] using h2
      · exact .inl rfl

end Sys2Proof.Machine
end

