-- ==== Sys2Proof/Laws/PerInstr.lean ====
section
/-! SUPPORT. Statements about every command, one lemma per constructor. `FieldsKept`: the word of a command holds exactly the fields
the command's format gives it (R80, R81). -/

namespace Sys2Proof.Laws.FieldsKept

/-- The fields of the command's word are the fields its format names. -/
def Statement (i : Instr) : Prop := fieldsOf (encode i) = encodeFields i

theorem fdct (d s : OpField) : Statement (.fdct d s) := fieldsOf_toWord _
theorem idct (d s : OpField) : Statement (.idct d s) := fieldsOf_toWord _
theorem qbuild (t s bsel : OpField) (q : Imm) : Statement (.qbuild t s bsel q) := fieldsOf_toWord _
theorem qbuildp (q : Imm) : Statement (.qbuildp q) := fieldsOf_toWord _
theorem quant (d s t : OpField) : Statement (.quant d s t) := fieldsOf_toWord _
theorem downs (d b : OpField) : Statement (.downs d b) := fieldsOf_toWord _
theorem ups (b s : OpField) : Statement (.ups b s) := fieldsOf_toWord _
theorem encrst (expl : Bool) (mode : Fin 4) : Statement (.encrst expl mode) := fieldsOf_toWord _
theorem encblk1 (s : OpField) : Statement (.encblk1 s) := fieldsOf_toWord _
theorem encblk3 (a b c : OpField) : Statement (.encblk3 a b c) := fieldsOf_toWord _
theorem encfin : Statement .encfin := fieldsOf_toWord _

end Sys2Proof.Laws.FieldsKept
end

