-- ==== Sys2Proof/Laws/Transform.lean ====
section
/-! SUPPORT. The sums and the rounding of the transforms. -/

namespace Sys2Proof.Machine

/-- The model's sum over a block is the finite sum. -/
theorem sum64_eq_sum (f : Fin 64 → Int) : sum64 f = ∑ i, f i := (Fin.sum_univ_def f).symm

/-- A raster index is its row and its column. -/
theorem eight_row_add_col (i : Fin 64) : 8 * (row i).val + (col i).val = i.val := by
  simp only [row, col]; omega

theorem dctScale_pos : 0 < dctScale := by decide

theorem dctScale_eq_two_half : dctScale = 2 * dctHalf := by decide

/-- `RoundExact` is within a half, and a tolerance more at a near half, of `acc / N`. -/
theorem roundExact_near (acc : Int) : |2 * (roundExact acc * dctScale - acc)| ≤ dctScale + 2 * dctTolerance := by
  have hN := dctScale_eq_two_half
  have hpos := dctScale_pos
  have hlo := Int.emod_nonneg acc hpos.ne'
  have hhi := Int.emod_lt_of_pos acc hpos
  have hT : 0 ≤ dctTolerance := by decide
  have hdm := Int.mul_ediv_add_emod acc dctScale
  have hrem : acc - acc / dctScale * dctScale = acc % dctScale := by rw [Int.mul_comm]; omega
  have hsucc : (acc / dctScale + 1) * dctScale = acc / dctScale * dctScale + dctScale := by ring
  simp only [roundExact, hrem]
  split
  · rename_i h
    rw [abs_le] at h ⊢
    split
    · rw [hsucc]; constructor <;> omega
    · constructor <;> omega
  · split
    · rw [hsucc, abs_le]; constructor <;> omega
    · rw [abs_le]; constructor <;> omega

end Sys2Proof.Machine
end

