-- ==== Sys2Proof/Laws/Window.lean ====
section
/-! SUPPORT. Where the entries of the block buffer and of the table RAM stand in the window (R31, R34). -/

namespace Sys2Proof.Machine

/-- Offset `0x1000 + 256*n + 4*i` is entry `i` of slot `n`. -/
theorem locate_slot (n : OpField) (i : Fin 64) : locate ⟨0x1000 + 256 * n.val + 4 * i.val, by omega⟩ = .slot n i := by
  unfold locate
  rw [if_neg (by simp; omega), if_neg (by simp; omega), if_neg (by simp; omega)]
  have h : (0x1000 + 256 * n.val + 4 * i.val - 0x1000) / 256 % 16 < Config.nslots := Nat.mod_lt _ (by decide)
  refine (if_pos h).trans ?_
  congr 1 <;> apply Fin.ext <;> simp <;> omega

/-- Offset `0x100*(t+1) + 4*i` is `QT[t][i]`. -/
theorem locate_qt (t : Fin 2) (i : Fin 64) : locate ⟨0x100 * (t.val + 1) + 4 * i.val, by omega⟩ = .qt t i := by
  unfold locate
  rw [if_neg (by simp; omega), if_pos (by simp; omega)]
  congr 1 <;> apply Fin.ext <;> simp <;> omega

/-- Every aligned offset that names an entry of a slot lies in that slot's 256 bytes. -/
theorem locate_eq_slot {off : Fin 8192} {n : OpField} {i : Fin 64} (h : locate off = .slot n i) :
    0x1000 + 256 * n.val ≤ off.val ∧ off.val < 0x1000 + 256 * n.val + 256 := by
  unfold locate at h
  split at h
  · unfold registerAt at h; split at h <;> exact absurd h (by simp)
  · split at h
    · exact absurd h (by simp)
    · split at h
      · exact absurd h (by simp)
      · simp only at h
        split at h
        · simp only [Location.slot.injEq, Fin.ext_iff] at h
          omega
        · exact absurd h (by simp)

/-- Every offset that names an entry of a table lies in that table's 256 bytes. -/
theorem locate_eq_qt {off : Fin 8192} {t : Fin 2} {i : Fin 64} (h : locate off = .qt t i) :
    0x100 * (t.val + 1) ≤ off.val ∧ off.val < 0x100 * (t.val + 1) + 256 := by
  unfold locate at h
  split at h
  · unfold registerAt at h; split at h <;> exact absurd h (by simp)
  · split at h
    · simp only [Location.qt.injEq, Fin.ext_iff] at h
      omega
    · split at h
      · exact absurd h (by simp)
      · simp only at h
        split at h <;> exact absurd h (by simp)

end Sys2Proof.Machine
end

