-- ==== Sys2Proof/Tests/Slice0.lean ====
section
/-! SUPPORT. The model's own tests. Expected values are the spec's: the encodings of R91 and the vectors and programs of
spec/95_test_vectors.md. The last section shows, for each statement with hypotheses, states and operands that meet them. -/

open Sys2Proof Sys2Proof.Machine

namespace Sys2Proof.Tests

-- One theorem at a time: the kernel's evaluations side by side would need more memory than they need one after the other.
set_option Elab.async false

/-! ## Helpers -/

/-- A block with these entries, 0 beyond the list. -/
def blk (l : List Int) : Block := Vector.ofFn fun i => BitVec.ofInt 16 (l.getD i.val 0)

/-- A block with these entries and 0 elsewhere. -/
def sparse (l : List (Nat × Int)) : Block := Vector.ofFn fun i => BitVec.ofInt 16 ((l.lookup i.val).getD 0)

/-- A table with one factor everywhere. -/
def flat (f : Nat) : Table := Vector.replicate 64 (BitVec.ofNat 8 f)

/-- The entries of a block. -/
def ints (b : Block) : List Int := b.toList.map (·.toInt)

/-- The entries of a table. -/
def nats (t : Table) : List Nat := t.toList.map (·.toNat)

/-- The state after reset once all-zero RAMs have been written, with a sink that accepts 1200 bytes. -/
def base : State :=
  { State.reset with
    slots := Vector.replicate 16 (Vector.replicate 64 0), written := Vector.replicate 16 (Vector.replicate 64 true)
    qt := Vector.replicate 2 (flat 1), sqt := Vector.replicate 2 (flat 1),
    sink := List.replicate 1200 .accept }

/-- An open Gray session of one MCU, with all factors 1. -/
def gray : State := { base with encState := .ready, mcuTotal := 1 }

/-- An open YCbCr444 session of two MCUs with the tables of quality 75. -/
def colour : State :=
  { base with encState := .ready, encMode := .ycc444, mcuTotal := 2, sqt := #v[buildTable baseL 75, buildTable baseC 75] }

/-- One step. -/
def run (s : State) : State :=
  match step s with
  | .next t => t
  | _ => s

/-- One step that runs the command word `w`. -/
def run1 (w : Nat) (s : State) : State := run (s.withFetchWord 32 w)

/-- One write of the host. -/
def wr (off : Fin 8192) (v : Word) (s : State) : State := s.hostAccess (.write off 4 v)

/-- What a read of the host returns. -/
def rd (off : Fin 8192) (s : State) : BusReply := (s.hostAccess (.read off 4)).busReply

/-! ## WellFormed: each check refuses an ill-formed operand (R86) -/

theorem test_slot_check : WellFormed.slot 15 = true ∧ WellFormed.slot 16 = false := by decide
theorem test_fourSlots_check : WellFormed.fourSlots 12 = true ∧ WellFormed.fourSlots 13 = false := by decide
theorem test_table_check : WellFormed.table 1 = true ∧ WellFormed.table 2 = false := by decide
theorem test_baseSelector_check : WellFormed.baseSelector 2 = true ∧ WellFormed.baseSelector 3 = false := by decide
theorem test_illformed_qbuild_table : (Instr.qbuild 2 0 0 50).wellFormed = false := by decide
theorem test_illformed_qbuild_selector : (Instr.qbuild 0 0 3 50).wellFormed = false := by decide
theorem test_illformed_quant : (Instr.quant 0 0 2).wellFormed = false := by decide
theorem test_illformed_downs : (Instr.downs 0 13).wellFormed = false := by decide
theorem test_illformed_ups : (Instr.ups 13 0).wellFormed = false := by decide

/-! ## Decoding: a word of each command written out field by field from R80, R81, R83 -/

theorem test_decode_fdct : decode (0b00000001_0001_0000_0000_0000_00000000) = .ok (.fdct 1 0) := by decide
theorem test_decode_idct : decode (0b00000010_0011_0001_0000_0000_00000000) = .ok (.idct 3 1) := by decide
theorem test_decode_qbuild : decode (0b00000011_0001_0111_0010_0000_01001011) = .ok (.qbuild 1 7 2 75) := by decide
theorem test_decode_qbuildp : decode (0b00000100_0000_0000_0000_0000_00110010) = .ok (.qbuildp 50) := by decide
theorem test_decode_quant : decode (0b00000101_0010_0001_0001_0000_00000000) = .ok (.quant 2 1 1) := by decide
theorem test_decode_downs : decode (0b00000110_0001_1000_0000_0000_00000000) = .ok (.downs 1 8) := by decide
theorem test_decode_ups : decode (0b00000111_1000_0000_0000_0000_00000000) = .ok (.ups 8 0) := by decide
theorem test_decode_encrst : decode (0b00001000_0000_0000_0000_0000_00000101) = .ok (.encrst true 1) := by decide
theorem test_decode_encblk1 : decode (0b00001001_0000_0001_0000_0000_00000000) = .ok (.encblk1 1) := by decide
theorem test_decode_encblk3 : decode (0b00001010_0000_0011_0100_0101_00000000) = .ok (.encblk3 3 4 5) := by decide
theorem test_decode_encfin : decode (0b00001011_0000_0000_0000_0000_00000000) = .ok .encfin := by decide

/-- R84: 0x00 and 0x0C to 0xFF are reserved. -/
theorem test_decode_reserved_opcode :
    decode 0x00000000 = .error .reservedOpcode ∧ decode 0x0C000000 = .error .reservedOpcode ∧
    decode 0xFF000000 = .error .reservedOpcode := by decide

/-- R85: a bit in a field the format marks 0. -/
theorem test_decode_reserved_field :
    decode 0x01000001 = .error .reservedField ∧ decode 0x02000800 = .error .reservedField ∧
    decode 0x03000100 = .error .reservedField ∧ decode 0x04100032 = .error .reservedField ∧
    decode 0x05000001 = .error .reservedField ∧ decode 0x06001000 = .error .reservedField ∧
    decode 0x07000080 = .error .reservedField ∧ decode 0x08000008 = .error .reservedField ∧
    decode 0x09100000 = .error .reservedField ∧ decode 0x0A000001 = .error .reservedField ∧
    decode 0x0B010000 = .error .reservedField := by decide

/-- R91, V10: the assembler's text. -/
theorem test_text :
    (Instr.quant 2 1 0).text = "QUANT s2, s1, t0" ∧ (Instr.qbuild 0 7 1 50).text = "QBUILD t0, rom_c, 50" ∧
    (Instr.qbuild 2 0 0 50).text = "QBUILD t2, rom_l, 50" ∧ (Instr.encrst true 1).text = "ENCRST ycc444, explicit" ∧
    (Instr.encblk3 3 4 5).text = "ENCBLK3 s3, s4, s5" := by decide

/-! ## Commands -/

/-- The reference samples `S` of V1. -/
def vecS : List Int :=
    [52, 55, 61, 66, 70, 61, 64, 73, 63, 59, 55, 90, 109, 85, 69, 72] ++
    [62, 59, 68, 113, 144, 104, 66, 73, 63, 58, 71, 122, 154, 106, 70, 69] ++
    [67, 61, 68, 104, 126, 88, 68, 70, 79, 65, 60, 70, 77, 68, 58, 75] ++
    [85, 71, 64, 59, 55, 61, 65, 83, 87, 79, 69, 68, 65, 76, 78, 94]

/-- The reference coefficients `E` of V1. -/
def vecE : List Int :=
    [-415, -30, -61, 27, 56, -20, -2, 0, 4, -22, -61, 10, 13, -7, -9, 5] ++
    [-47, 7, 77, -25, -29, 10, 5, -6, -49, 12, 34, -15, -10, 6, 2, 2] ++
    [12, -7, -13, -4, -2, 2, -3, 3, -8, 3, 2, -6, -2, 1, 4, 2] ++
    [-1, 0, 0, -2, -1, -3, 4, -1, 0, 0, -1, -4, -1, 0, 1, 2]

/-- `IDCT` of `E` (V5). -/
def vec5 : List Int :=
    [51, 55, 61, 66, 70, 61, 64, 73, 63, 59, 55, 90, 109, 85, 69, 72] ++
    [62, 59, 68, 113, 144, 104, 66, 73, 63, 58, 71, 122, 154, 106, 70, 69] ++
    [68, 61, 68, 104, 126, 88, 68, 70, 79, 65, 60, 70, 77, 68, 58, 75] ++
    [85, 71, 64, 59, 55, 61, 65, 83, 87, 79, 69, 68, 65, 77, 78, 94]

/-- `E` quantized with the luma base table (V11). -/
def vec11 : List Int :=
    [-26, -3, -6, 2, 2, -1, 0, 0, 0, -2, -4, 1, 1, 0, 0, 0] ++
    [-3, 1, 5, -1, -1, 0, 0, 0, -4, 1, 2, -1, 0, 0, 0, 0] ++
    [1, 0, 0, 0, 0, 0, 0, 0, 0, 0, 0, 0, 0, 0, 0, 0] ++
    [0, 0, 0, 0, 0, 0, 0, 0, 0, 0, 0, 0, 0, 0, 0, 0]

/-- The input of V4, which has exact halves at entries 18 and 54. -/
def vec4 : List Int :=
    [128, 64, 128, 64, 128, 64, 64, 0, 255, 64, 255, 0, 0, 128, 64, 255] ++
    [255, 0, 64, 0, 0, 255, 128, 0, 255, 0, 255, 64, 64, 64, 128, 128] ++
    [255, 255, 0, 64, 128, 64, 0, 64, 0, 255, 64, 0, 0, 128, 64, 0] ++
    [128, 64, 255, 128, 255, 128, 128, 128, 128, 255, 128, 64, 64, 255, 0, 128]

/-- The super-block `8X + 4Y` of V13 in slots 4 to 7. -/
def ramp : State :=
  let q : Int → Int → Block := fun X Y => Vector.ofFn fun i => BitVec.ofInt 16 (8 * (X + i.val % 8) + 4 * (Y + i.val / 8))
  (((base.setSlot 4 (q 0 0)).setSlot 5 (q 8 0)).setSlot 6 (q 0 8)).setSlot 7 (q 8 8)

/-- V1: `FDCT s1, s0`. -/
theorem test_fdct_reference : ints ((run1 0x01100000 (base.setSlot 0 (blk vecS))).slot 1) = vecE := by decide +kernel

/-- V4: an exact half -87.5 goes away from zero. -/
theorem test_fdct_halves :
    roundExact (fdctAcc (blk vec4) 18) = -88 ∧ roundExact (fdctAcc (blk vec4) 54) = -88 := by decide +kernel

/-- V5: `IDCT s3, s1`. -/
theorem test_idct_reference : ints ((run1 0x02310000 (base.setSlot 1 (blk vecE))).slot 3) = vec5 := by decide +kernel

/-- V6: `F[0] = -4` gives 127.5 everywhere, so 128, in place. -/
theorem test_idct_half : ints ((run1 0x02000000 (base.setSlot 0 (sparse [(0, -4)]))).slot 0) = List.replicate 64 128 := by
  decide +kernel

/-- V9: row 0 of `QBUILD t0, rom_l, 30`; with real division entry 7 would be 102. -/
theorem test_qbuild_row : (nats (run1 0x0300001E base).qt[0]).take 8 = [27, 18, 17, 27, 40, 66, 85, 101] := by decide +kernel

/-- V10: a slot base at quality 1. -/
theorem test_qbuild_slot :
    (nats (run1 0x03102001 (base.setSlot 0 (blk ([1, 2, 3, 4, 5, 6, 7, 255] ++ List.replicate 56 1)))).qt[1]).take 10 =
      [50, 100, 150, 200, 250, 255, 255, 255, 50, 50] := by decide +kernel

/-- V9: row 0 of both tables at quality 90. -/
theorem test_qbuildp_rows :
    (nats (run1 0x0400005A base).qt[0]).take 8 = [3, 2, 2, 3, 5, 8, 10, 12] ∧
    (nats (run1 0x0400005A base).qt[1]).take 8 = [3, 4, 5, 9, 20, 20, 20, 20] := by decide +kernel

/-- V10: quality 101. -/
theorem test_qbuildp_quality :
    (run1 0x04000065 base).errcode = .configuration ∧ (run1 0x04000065 base).qt = base.qt := by decide +kernel

/-- V11: `QUANT s2, s1, t0` with the luma base table. -/
theorem test_quant_reference :
    ints ((run1 0x05210000 ((base.setSlot 1 (blk vecE)).setQt 0 (buildTable baseL 50))).slot 2) = vec11 := by decide +kernel

/-- V12: the corners of the quantizer. -/
theorem test_quantizer_corners :
    quantize 7 14 = 1 ∧ quantize (-7) 14 = -1 ∧ quantize (-6) 4 = -2 ∧ quantize 0 9 = 0 ∧ quantize 127 255 = 0 ∧
    quantize (-128) 255 = -1 ∧ quantize (-32768) 1 = -32768 ∧ quantize 32767 255 = 128 ∧ quantize (-32768) 255 = -129 := by
  decide

/-- V13, P2: `DOWNS s4, s4` in place; slot 5 stays. -/
theorem test_downs_in_place :
    ints ((run1 0x06440000 ramp).slot 4) = (List.range 64).map (fun i => ((16 * (i % 8) + 8 * (i / 8) + 6 : Nat) : Int)) ∧
    (run1 0x06440000 ramp).slot 5 = ramp.slot 5 := by decide +kernel

/-- P2: `DOWNS s0, s13` completes with `BAD_OPERAND`. -/
theorem test_downs_operand : (run1 0x060D0000 base).statusWord = 0x00000206 := by decide +kernel

/-- V14: a single bright sample `p(3, 3) = 160`: row `Y = 6`, columns 5 to 8, over the quadrants of slots 8 to 11. -/
theorem test_ups_bright :
    (([5, 6, 7, 8] : List (Fin 16)).map fun X => superSample ((run1 0x07800000 (base.setSlot 0 (sparse [(27, 160)]))).quadrants 8) X 6) =
      [30, 90, 90, 30] := by decide +kernel

/-- V14: a step edge, row 15. -/
theorem test_ups_edge :
    ((List.finRange 16).map fun X =>
        superSample ((run1 0x07800000 (base.setSlot 0 (Vector.ofFn fun i => if i.val % 8 < 4 then 0 else 255))).quadrants 8) X 15) =
      [0, 0, 0, 0, 0, 0, 0, 64, 191, 255, 255, 255, 255, 255, 255, 255] := by decide +kernel

/-- P3: `ENCRST gray, explicit` for an 8x8 image, the counts and the bytes around the tables. -/
theorem test_encrst_gray :
    let t := run1 0x08000004 (wr 0x018 8 (wr 0x014 8 (base.setQt 0 (buildTable baseL 50))))
    t.statusWord = 0x00001002 ∧ t.outCount = 306 ∧ t.mcuTotal = 1 ∧
    t.stream.take 15 = [0xFF, 0xD8, 0xFF, 0xDB, 0x00, 0x43, 0x00, 0x10, 0x0B, 0x0C, 0x0E, 0x0C, 0x0A, 0x10, 0x0E] ∧
    (t.stream.drop 71).take 18 =
      [0xFF, 0xC0, 0x00, 0x0B, 0x08, 0x00, 0x08, 0x00, 0x08, 0x01, 0x01, 0x11, 0x00, 0xFF, 0xC4, 0x00, 0xD2, 0x00] ∧
    t.stream.drop 296 = [0xFF, 0xDA, 0x00, 0x08, 0x01, 0x01, 0x00, 0x00, 0x3F, 0x00] := by decide +kernel

/-- P6: the sink rejects the header byte at position 100. -/
theorem test_encrst_reject :
    let t := run1 0x08000004 (wr 0x018 8 (wr 0x014 8 { base with sink := List.replicate 100 .accept ++ [.reject] }))
    t.statusWord = 0x00003606 ∧ t.outCount = 100 ∧ t.sinkHolds.length = 100 := by decide +kernel

/-- V16: the reference block as the first Gray block. -/
theorem test_encblk1_reference :
    let t := run1 0x09010000 { gray.setSlot 1 (blk vecE) with sqt := #v[buildTable baseL 50, flat 1] }
    t.stream = [0xC5, 0x4D, 0x8B, 0x0B, 0x46, 0x63, 0x26, 0x52, 0xC0, 0x86, 0xF4] ∧ t.bitstateWord = 0x0000070A ∧
    t.pred0.toInt = -26 ∧ t.mcuCount = 1 := by decide +kernel

/-- V17: DC -15 and `z[63] = 127`: a run of three ZRL, no EOB, a stuffed zero. -/
theorem test_encblk1_runs :
    let t := run1 0x09000000 (gray.setSlot 0 (sparse [(0, -15), (63, 127)]))
    t.stream = [0xA1, 0xFE, 0x7F, 0xCF, 0xF9, 0xFF, 0x00, 0xF1] ∧ t.bitstateWord = 0x0000077F := by decide +kernel

/-- P5: the first MCU of the colour image. -/
theorem test_encblk3_first_mcu :
    let t := run1 0x0A001200 ((colour.setSlot 0 (sparse [(0, 80), (12, 13299)])).setSlot 2 (sparse [(0, -50), (63, 100)]))
    t.stream = [0xB5, 0xFF, 0x00, 0xFD, 0xFF, 0x00, 0xD0, 0x63, 0xFD, 0x7F, 0x5F, 0xD7, 0xFF, 0x00] ∧
    t.bitstateWord = 0x00000736 ∧ (t.pred0.toInt, t.pred1.toInt, t.pred2.toInt) = (10, 0, -6) := by decide +kernel

/-- P5: the second MCU. -/
theorem test_encblk3_second_mcu :
    let s := { colour with pred0 := 10, pred2 := -6, bitacc := 0x36, bitcnt := 7, mcuCount := 1 }
    let t := run1 0x0A034500
      (((s.setSlot 3 (sparse [(0, 80), (1, -7)])).setSlot 4 (sparse [(0, 18)])).setSlot 5 (sparse [(0, -50), (26, 150)]))
    t.stream = [0x6C, 0x0A, 0xA0, 0xFE, 0xB9] ∧ t.bitstateWord = 0x0000040C ∧ t.pred1.toInt = 2 ∧ t.mcuCount = 2 := by
  decide +kernel

/-- P3: the pad byte and EOI. -/
theorem test_encfin_pad :
    let t := run1 0x0B000000 { gray with bitacc := 0x0A, bitcnt := 7, mcuCount := 1 }
    t.stream = [0x15, 0xFF, 0xD9] ∧ t.statusWord = 0x00002002 := by decide +kernel

/-- V17: a pad byte `FF` is stuffed; P6: `INCOMPLETE`. -/
theorem test_encfin_stuffed_pad :
    let t := run1 0x0B000000 { gray with bitacc := 0x7F, bitcnt := 7 }
    t.stream = [0xFF, 0x00, 0xFF, 0xD9] ∧ t.statusWord = 0x00002022 := by decide +kernel

/-! ## The window, errors and stalls -/

/-- P1: entries are sign-extended; R23: `CFG`. -/
theorem test_window_reads :
    rd 0x1000 (base.setSlot 0 (blk vecE)) = .data 0xFFFFFE61 ∧ rd 0x1104 (base.setSlot 1 (blk vecE)) = .data 0xFFFFFFE2 ∧
    rd 0x004 base = .data 0x00014B10 := by decide +kernel

/-- R92: `CLR` clears the four sticky flags and nothing else. -/
theorem test_clr :
    (wr 0x00C 0x1E { base with done := true, err := true, cmdOverrun := true, accConflict := true, errcode := .io }).statusWord =
      0x00000600 := by decide +kernel

/-- R92: a command of a program is the write of its word and `WAIT`. -/
theorem test_program_command :
    hostCommand (.fdct 1 0) = [.host (.write 0x010 4 0x01100000), .wait] ∧
    (hostLds 2 (Vector.replicate 64 7))[63]? = some (.host (.write 0x12FC 4 7)) := by decide +kernel

/-- R92: `WAIT` reads on while `BUSY` is 1, and stops at a read that shows `BUSY = 0`. -/
theorem test_wait :
    (run { base.accept 0x0C000000 with turns := [hostWait, .freshSink] }).turns = [.engine, .wait, .freshSink] ∧
    (run { base with turns := [hostWait, .freshSink] }).turns = [.freshSink] := by decide +kernel

/-- R283 item 1: a host write marks its entry; the 64 writes of `LDS` mark the slot. -/
theorem test_written :
    let s := wr 0x1004 5 State.reset
    s.written[0][1] = true ∧ s.written[0][0] = false ∧ s.slotWritten 0 = false ∧ base.slotWritten 15 = true := by decide +kernel

/-- R283 item 1, U4: `IDCT` of an unwritten slot completes and writes its destination. -/
theorem test_idct_unwritten :
    let t := run1 0x02310000 State.reset
    t.statusWord = 0x00000002 ∧ t.slotWritten 3 = true ∧ t.slotWritten 1 = false := by decide +kernel

/-- P4 steps 1, 4, 6 and 7. -/
theorem test_session_errors :
    (run1 0x09000000 base).statusWord = 0x00003306 ∧ (run1 0x09000000 colour).statusWord = 0x00007406 ∧
    (run1 0x0B000000 { colour with encState := .error, err := true }).statusWord = 0x00006006 ∧
    (run1 0x0C000000 { colour with encState := .closed, err := true }).statusWord = 0x00006106 := by decide +kernel

/-- P7: while the sink stalls on the first byte, `STATUS` reads `0x1003`. -/
theorem test_stall_holds :
    let s := { gray.setSlot 1 (blk vecE) with sqt := #v[buildTable baseL 50, flat 1], done := true, sink := [.stall] }
    (run1 0x09010000 s).statusWord = 0x00001003 ∧ (run1 0x09010000 s).stream = [] := by decide +kernel

/-! ## Witnesses: for each statement with hypotheses, states and operands that meet all of them -/

/-- The state of `base` with `w` accepted. -/
def accepted (w : Word) : State := base.accept w

/-- A state in which the engine holds a byte of a header. -/
def holding : State := { base with engine := .offering 0xFF [0xD8] .openSession, done := true }

/-- A block of samples, and its mirror at 128. -/
def dim : Block := Vector.replicate 64 1
def bright : Block := Vector.replicate 64 255

theorem witness_EncodeDecodeAgree : decode 0x0A0FFF00#32 = .ok (.encblk3 15 15 15) := by decide

theorem witness_ReservedOpcodesAreIllegal :
    ∀ w ∈ [0x00000000#32, 0x00FFFFFF#32, 0x0C000000#32, 0xFFFFFFFF#32], (accepted w).engine = .accepted ∧
      ((accepted w).cmd.extractLsb' 24 8 = 0 ∨ 0x0C ≤ ((accepted w).cmd.extractLsb' 24 8).toNat) := by
  simp [accepted, State.accept]

theorem witness_ReservedFieldsAreIllegal :
    ∀ p ∈ [(0x01008000#32, 0x0000FFFF#32), (0x02000001#32, 0x0000FFFF#32), (0x03000800#32, 0x00000F00#32),
        (0x04800000#32, 0x00FFFF00#32), (0x05000800#32, 0x00000FFF#32), (0x06008000#32, 0x0000FFFF#32),
        (0x07000001#32, 0x0000FFFF#32), (0x08000008#32, 0x00FFFFF8#32), (0x09800000#32, 0x00F0FFFF#32),
        (0x0A000080#32, 0x00F000FF#32), (0x0B000001#32, 0x00FFFFFF#32)],
      (accepted p.1).engine = .accepted ∧ 1 ≤ ((accepted p.1).cmd.extractLsb' 24 8).toNat ∧
      ((accepted p.1).cmd.extractLsb' 24 8).toNat ≤ 0x0B ∧ (accepted p.1).cmd &&& p.2 ≠ 0 := by
  simp [accepted, State.accept]

theorem witness_BadOperandsComplete :
    (∀ i ∈ [Instr.qbuild 2 0 0 50, .qbuild 0 0 3 50, .quant 0 0 2, .downs 0 13, .ups 13 0], i.wellFormed = false) ∧
    (Instr.downs 0 12).wellFormed = true ∧ ∃ t, exec (.downs 0 12) base = .next t ∧ t.engine = .idle :=
  ⟨by decide, by decide, _, rfl, by decide +kernel⟩

theorem witness_StepRunsDecodedCommand :
    ((accepted 0x01100000).engine = .accepted ∧ decode (accepted 0x01100000).cmd = .ok (.fdct 1 0) ∧
      (accepted 0x01100000).turns = []) ∧
    ({ accepted 0x01100000 with turns := [.engine, .reset] } : State).turns = .engine :: [.reset] ∧
    decodeTableWord 32 0x0B000000 = some .encfin := by decide +kernel

/-- `ENCFIN` outside `READY` as a program's command; and `WAIT` while busy and while idle. -/
theorem witness_WaitReadsUntilIdle :
    let s : State := { base with turns := hostCommand .encfin ++ [.reset] }
    s.busy = false ∧ s.turns = hostCommand .encfin ++ [.reset] ∧
    (let a : State := { s with
      cmd := encode .encfin, engine := .accepted, sampledWidth := s.width, sampledHeight := s.height, turns := hostWait :: [.reset] }
     ∃ u, exec .encfin { a with busReply := .data a.statusWord } = .next u ∧ u.engine = .idle) ∧
    ({ holding with turns := [hostWait] } : State).turns = hostWait :: [] ∧ holding.busy = true :=
  ⟨by decide, rfl, ⟨_, rfl, by decide⟩, rfl, rfl⟩

theorem witness_ResetFromAnyState :
    ({ holding with turns := [.reset] } : State).turns = .reset :: [] ∧ holding.busy = true := by decide

theorem witness_IllegalAccessesChangeNothing :
    ¬ (2 = 4 ∧ (0x010 : Fin 8192).val % 4 = 0) ∧ ¬ (4 = 4 ∧ (0x011 : Fin 8192).val % 4 = 0) := by decide

theorem witness_InertAccesses :
    (∀ off ∈ [(0x038 : Fin 8192), 0x0FC, 0x300, 0xFFC],
      off.val % 4 = 0 ∧ (0x038 ≤ off.val ∧ off.val < 0x100 ∨ 0x300 ≤ off.val ∧ off.val < 0x1000)) ∧
    (∀ off ∈ [(0x000 : Fin 8192), 0x004, 0x01C, 0x034],
      off.val = 0x000 ∨ off.val = 0x004 ∨ off.val % 4 = 0 ∧ 0x01C ≤ off.val ∧ off.val ≤ 0x034) ∧
    base.busy = false := by
  refine ⟨by simp, by simp, rfl⟩

theorem witness_EntriesHoldWrites :
    base.busy = false ∧ (0x1FF8 : Fin 8192).val % 4 = 0 ∧ (0x1FF8 : Fin 8192) ≠ 0x1FFC ∧ (0x2FC : Fin 8192) ≠ 0x1FFC ∧
    ({ base with turns := hostLds 15 (Vector.replicate 64 7) ++ [.reset] } : State).turns =
      hostLds 15 (Vector.replicate 64 7) ++ [.reset] ∧
    ({ base with turns := hostLdq 1 (Vector.replicate 64 7) } : State).turns = hostLdq 1 (Vector.replicate 64 7) ++ [] :=
  ⟨rfl, by decide, by simp, by simp, rfl, by simp⟩

theorem witness_StatusWriteClearsFlags :
    let s := { accepted 0x0C000000 with turns := [.both (.write 0x00C 4 0x1E)] }
    s.turns = .both (.write 0x00C 4 0x1E) :: [] ∧ s.engine ≠ .idle ∧
    ∃ t, step s = .next t ∧ t.engine = .idle ∧ t.errcode ≠ .none := by
  refine ⟨rfl, by decide, _, rfl, by decide, by decide⟩

theorem witness_CmdWriteIssuesOrOverruns : base.busy = false ∧ holding.busy = true := ⟨rfl, rfl⟩

theorem witness_BusyAccesses :
    holding.busy = true ∧
    (∀ off ∈ [(0x100 : Fin 8192), 0x2FC, 0x1000, 0x1FFC],
      off.val % 4 = 0 ∧ (0x100 ≤ off.val ∧ off.val < 0x300 ∨ 0x1000 ≤ off.val)) ∧
    (∀ off ∈ [(0x020 : Fin 8192), 0x034], off.val % 4 = 0 ∧ 0x020 ≤ off.val ∧ off.val ≤ 0x034) ∧
    (∀ off ∈ [(0x000 : Fin 8192), 0x018, 0x038, 0x0FC, 0x300, 0xFFC], off.val % 4 = 0 ∧
      (off.val < 0x01C ∨ 0x038 ≤ off.val ∧ off.val < 0x100 ∨ 0x300 ≤ off.val ∧ off.val < 0x1000)) := by
  refine ⟨rfl, by simp, by simp, by simp⟩

theorem witness_InterruptHeldUntilCleared :
    let s := { base with ctrlIE := true, done := true }
    (s.irq = true ∧ ∃ t, step { s with turns := [.host (.write 0x00C 4 2)] } = .next t ∧ t.irq = false) ∧
    (∃ t, step { s with turns := [.host (.write 0x008 4 0)] } = .next t ∧ t.irq = false) ∧
    (∃ t, step { s with turns := [.reset] } = .next t ∧ t.irq = false) := by
  refine ⟨⟨by decide, _, rfl, by decide⟩, ⟨_, rfl, by decide⟩, _, rfl, by decide⟩

/-- What a write of `CTRL` with reserved bits set leaves. -/
theorem witness_BusyAccesses_writes :
    (wr 0x008 0xFFFFFFFE base).ctrlIE = false ∧ (wr 0x008 0x80000001 base).ctrlIE = true := by decide

theorem witness_CommandsCompleteOrHold : ∃ t, exec .encfin gray = .next t ∧ t.engine = .idle := ⟨_, rfl, by decide⟩

theorem witness_ErrorsWriteNothing :
    ∃ t, exec (.encrst false 2) gray = .next t ∧ t.engine = .idle ∧ t.errcode ≠ .none ∧ t.errcode ≠ .io :=
  ⟨_, rfl, by decide, by decide, by decide⟩

theorem witness_SessionUntouchedByOtherCommands : IsEncoder (.fdct 1 0) = false := by decide

theorem witness_EncoderStateTransitions :
    (∃ t, exec .encfin gray = .next t ∧ t.engine = .idle ∧ t.errcode = .none) ∧
    (∃ t, exec (.encblk1 0) base = .next t ∧ t.engine = .idle ∧ t.errcode = .sequencing) ∧
    (∃ t, exec .encfin { gray with sink := [.stall] } = .next t ∧ t.engine ≠ .idle) ∧
    (∃ t, exec .encfin { gray with sink := [.reject] } = .next t ∧ t.engine = .idle ∧ t.errcode = .io) :=
  ⟨⟨_, rfl, by decide, by decide⟩, ⟨_, rfl, by decide, by decide⟩, ⟨_, rfl, by decide⟩, _, rfl, by decide, by decide⟩

/-- For `FdctComputes`, `IdctComputes`, `FdctResultRange`, `FdctNearRealTransform`, `UpsComputes`. -/
theorem witness_Samples : base.slotWritten 0 = true ∧ Samples (base.slots[(0 : OpField)]) ∧ Samples dim ∧ Samples bright := by decide +kernel

/-- The third block has entries only where no basis factor is irrational. -/
theorem witness_TransformsRoundHalvesAway :
    (Samples dim ∧ Samples bright ∧ ∀ i : Fin 64, bright[i].toInt - 128 = -(dim[i].toInt - 128)) ∧
    (36 : Fin 64).val = 8 * (4 : Fin 8).val + (4 : Fin 8).val ∧
    ∀ i : Fin 64, i ≠ 0 → i ≠ 4 → i ≠ 32 → i ≠ 36 → (sparse [(0, -4), (4, 3), (36, 1)])[i] = 0 := by decide +kernel

theorem witness_CosineConstantsRounded : (1 ≤ 1 ∧ 1 ≤ 7) ∧ (1 ≤ 7 ∧ 7 ≤ 7) := by decide

/-- For `FdctNearRealTransform` and `IdctNearRealTransform`. -/
theorem witness_NearRealTransform : Samples bright ∧ (63 : Fin 64).val = 8 * (7 : Fin 8).val + (7 : Fin 8).val := by decide +kernel

theorem witness_TableBuildersCompute :
    (∀ q ∈ [(1 : Imm), 49, 50, 100], 1 ≤ q.val ∧ q.val ≤ 100) ∧ (base.setSlot 0 dim).slotWritten 0 = true ∧
    ∀ i : Fin 64, 1 ≤ ((base.setSlot 0 dim).slots[(0 : OpField)][i]).toInt ∧
      ((base.setSlot 0 dim).slots[(0 : OpField)][i]).toInt ≤ 255 := by decide +kernel

theorem witness_OperandDataErrors :
    (∀ q ∈ [(0 : Imm), 101, 255], q.val = 0 ∨ 100 < q.val) ∧
    (∀ n : OpField, base.slotWritten n = true) ∧ (base.setSlot 0 (sparse [(5, 256)])).slotWritten 0 = true ∧
    (∀ k : Fin 4, (base.setSlot 15 (sparse [(5, -1)])).slotWritten ⟨12 + k.val, by omega⟩ = true) ∧
    (∃ i : Fin 64, (base.slots[(0 : OpField)][i]).toInt < 1 ∨ 255 < (base.slots[(0 : OpField)][i]).toInt) ∧
    (∃ i : Fin 64, ({ base with qt := Vector.replicate 2 (flat 0) } : State).qt[(1 : Fin 2)][i] = 0) ∧
    ¬ Samples ((base.setSlot 0 (sparse [(5, 256)])).slots[(0 : OpField)]) ∧
    ¬ Samples ((base.setSlot 15 (sparse [(5, -1)])).slots[12 + 3]) := by decide +kernel

theorem witness_ScalingLawProperties :
    (1 ≤ 1 ∧ 1 ≤ 255 ∧ 1 ≤ 99 ∧ 99 < 100) ∧ ∀ i : Fin 64, 1 ≤ baseL[i] ∧ baseL[i] ≤ 255 := by decide

theorem witness_QuantizerRoundsHalfAway :
    (-32768 : Int) ≤ -32768 ∧ (-32768 : Int) ≤ 32767 ∧ 1 ≤ 255 ∧ 255 % 2 = 1 ∧ 14 % 2 = 0 ∧ (-7 : Int).natAbs = 0 * 14 + 14 / 2 := by
  decide

theorem witness_QuantComputes : base.slotWritten 15 = true ∧ ∀ i : Fin 64, base.qt[(1 : Fin 2)][i] ≠ 0 := by decide +kernel

theorem witness_DownsComputes :
    (∀ k : Fin 4, base.slotWritten ⟨(12 : Fin 13).val + k.val, by omega⟩ = true) ∧ ∀ k : Fin 4, Samples (base.slots[(12 : Fin 13).val + k.val]) := by decide +kernel

theorem witness_ResamplerProperties :
    (∀ k : Fin 4, Samples (Vector.replicate 4 dim)[k]) ∧ (∀ k : Fin 4, Samples (Vector.replicate 4 bright)[k]) ∧
    (∀ X Y, superSample (Vector.replicate 4 dim) X Y = 1) ∧
    (∀ X Y, superSample (Vector.replicate 4 dim) X Y ≤ superSample (Vector.replicate 4 bright) X Y) ∧
    ∀ x y : Fin 8, (1 : Int) ≤ (dim[8 * y.val + x.val]).toInt ∧ (dim[8 * y.val + x.val]).toInt ≤ 1 := by decide +kernel

theorem witness_BufferCommandsFrame :
    (∃ t, exec (.ups 12 0) base = .next t) ∧ (∃ t, exec (.qbuild 1 0 0 50) base = .next t) ∧
    ((0xFFC : Fin 8192).val ≠ 0x00C ∧ ¬ (0x1000 ≤ (0xFFC : Fin 8192).val ∧ (0xFFC : Fin 8192).val < 0x1100)) :=
  ⟨⟨_, rfl⟩, ⟨_, rfl⟩, by decide⟩

theorem witness_EncoderCommandsFrame :
    IsEncoder .encfin = true ∧ (∃ t, exec .encfin gray = .next t) ∧
    ((0x018 : Fin 8192).val < 0x01C) ∧ (0x038 ≤ (0x038 : Fin 8192).val) := ⟨by decide, ⟨_, rfl⟩, by decide, by decide⟩

theorem witness_EncrstOpensSession :
    let s := { base with sampledWidth := 65535, sampledHeight := 1 }
    1 ≤ s.sampledWidth.toNat ∧ s.sampledWidth.toNat ≤ 65535 ∧ 1 ≤ s.sampledHeight.toNat ∧ s.sampledHeight.toNat ≤ 65535 ∧
    (∀ i : Fin 64, s.qt[0][i] ≠ 0) ∧ (∀ i : Fin 64, s.qt[1][i] ≠ 0) ∧
    s.sink = List.replicate 306 .accept ++ List.replicate 894 .accept ∧
    s.sink = List.replicate 589 .accept ++ List.replicate 611 .accept := by decide +kernel

theorem witness_EncrstRejectsConfiguration :
    2 ≤ (2 : Fin 4).val ∧ base.sampledWidth = 0 ∧ base.sampledHeight = 0 ∧
    65535 < ({ base with sampledWidth := 65536 } : State).sampledWidth.toNat ∧
    ∃ i : Fin 64, ({ base with qt := Vector.replicate 2 (flat 0) } : State).qt[1][i] = 0 := by decide +kernel

theorem witness_HeaderLayout : 65535 ≤ 65535 ∧ 0 ≤ 65535 := by decide

/-- The hypotheses of `Encblk1CodesBlock` on the corner block DC 2047, AC -1023, with the largest categories. -/
theorem witness_Encblk1CodesBlock :
    let s := gray.setSlot 0 (sparse [(0, 2047), (1, -1023)])
    let z : Fin 64 → Int := fun k => quantize (s.slots[(0 : OpField)][zz[k]]).toInt (s.sqt[0][zz[k]]).toNat
    let diff := z 0 - s.pred0.toInt
    let codes := encodeDC diff .luma ++ encodeAC ((List.finRange 64).map z).tail .luma
    let p := codes.foldl Packer.putBits { acc := s.bitacc, cnt := s.bitcnt, out := [] }
    s.encState = .ready ∧ s.encMode = .gray ∧ s.mcuCount.toNat < s.mcuTotal.toNat ∧ s.slotWritten 0 = true ∧
    category diff = 11 ∧ (∀ k : Fin 64, k ≠ 0 → category (z k) ≤ 10) ∧
    s.sink = List.replicate p.out.length .accept ++ s.sink.drop p.out.length := by decide +kernel

theorem witness_Encblk3CodesBlocks :
    let s := colour
    let z : OpField → Fin 2 → Fin 64 → Int := fun n t k => quantize (s.slots[n][zz[k]]).toInt (s.sqt[t][zz[k]]).toNat
    s.encState = .ready ∧ s.encMode = .ycc444 ∧ s.mcuCount.toNat < s.mcuTotal.toNat ∧
    s.slotWritten 0 = true ∧ s.slotWritten 1 = true ∧ s.slotWritten 2 = true ∧
    category (z 0 0 0 - s.pred0.toInt) ≤ 11 ∧ category (z 1 1 0 - s.pred1.toInt) ≤ 11 ∧ category (z 2 1 0 - s.pred2.toInt) ≤ 11 ∧
    (∀ k : Fin 64, k ≠ 0 → category (z 0 0 k) ≤ 10 ∧ category (z 1 1 k) ≤ 10 ∧ category (z 2 1 k) ≤ 10) ∧
    let p := (encodeDC 0 .luma ++ encodeAC (List.replicate 63 0) .luma ++ (encodeDC 0 .chroma ++ encodeAC (List.replicate 63 0) .chroma) ++
      (encodeDC 0 .chroma ++ encodeAC (List.replicate 63 0) .chroma)).foldl Packer.putBits { acc := s.bitacc, cnt := s.bitcnt, out := [] }
    s.sink = List.replicate p.out.length .accept ++ s.sink.drop p.out.length := by decide +kernel

theorem witness_BlockCommandErrors :
    base.encState ≠ .ready ∧ (gray.encState = .ready ∧ gray.encMode ≠ .ycc444) ∧ (colour.encState = .ready ∧ colour.encMode ≠ .gray) ∧
    ({ gray with mcuCount := 1 } : State).mcuTotal.toNat ≤ ({ gray with mcuCount := 1 } : State).mcuCount.toNat ∧
    (gray.setSlot 0 (sparse [(0, 2048)])).slotWritten 0 = true ∧ (gray.setSlot 0 (sparse [(63, 1024)])).slotWritten 0 = true ∧
    (colour.slotWritten 0 = true ∧ colour.slotWritten 1 = true ∧ colour.slotWritten 2 = true) ∧
    11 < category (quantize ((gray.setSlot 0 (sparse [(0, 2048)])).slots[(0 : OpField)][0]).toInt (gray.sqt[0][0]).toNat - gray.pred0.toInt) ∧
    10 < category (quantize ((gray.setSlot 0 (sparse [(63, 1024)])).slots[(0 : OpField)][63]).toInt (gray.sqt[0][63]).toNat) := by
  decide +kernel

/-- No slot is written right after reset; and sessions open at such a slot. -/
theorem witness_UnwrittenSlots :
    let fresh : Vector (Vector Bool 64) 16 := Vector.replicate 16 (Vector.replicate 64 false)
    (∀ n : OpField, State.reset.slotWritten n = false) ∧ (∀ i : Fin 64, ({ base with written := fresh } : State).qt[(1 : Fin 2)][i] ≠ 0) ∧
    (∃ k : Fin 4, ({ base with written := base.written.set 15 (fresh[0]) } : State).slotWritten ⟨12 + k.val, by omega⟩ = false) ∧
    (let s : State := { gray with written := fresh }
     s.encState = .ready ∧ s.encMode = .gray ∧ s.mcuCount.toNat < s.mcuTotal.toNat ∧ s.slotWritten 0 = false) ∧
    (let s : State := { colour with written := fresh }
     s.encState = .ready ∧ s.encMode = .ycc444 ∧ s.mcuCount.toNat < s.mcuTotal.toNat ∧
     (s.slotWritten 0 && s.slotWritten 1 && s.slotWritten 2) = false) := by decide +kernel

theorem witness_EncfinClosesSession :
    gray.encState = .ready ∧ gray.sink = List.replicate 2 .accept ++ gray.sink.drop 2 ∧
    gray.sink = List.replicate 4 .accept ++ gray.sink.drop 4 := by decide +kernel

theorem witness_EncfinOutsideReady : base.encState ≠ .ready ∧ ({ base with encState := .error } : State).encState ≠ .ready := by decide

theorem witness_CategoryAndAdditionalBits :
    (-2047 : Int).natAbs ≤ 2047 ∧ (1023 : Int).natAbs ≤ 1023 ∧ (-2047 : Int) ≠ 0 ∧ (0 : Int) < 1023 ∧ (-2047 : Int) < 0 := by decide

theorem witness_PackedBitsAreFaithful :
    let p := [({ value := 0xFF, n := 8 } : Bits)].foldl Packer.putBits { acc := 0, cnt := 0, out := [] }
    ∃ h : 0 < (p.out ++ flushBytes p.acc p.cnt).length, (p.out ++ flushBytes p.acc p.cnt)[0] = 0xFF := by decide +kernel

theorem witness_RejectStopsAtTheByte :
    ({ gray with sink := [.accept, .reject] } : State).sink = List.replicate [(0x15 : Byte)].length .accept ++ .reject :: [] := by decide

/-- An `ENCFIN` of 2 bytes and an `ENCRST` of 306, rejected at the last one. -/
theorem witness_RejectStopsAtTheByte_exec :
    (∃ u, exec .encfin { gray with sink := List.replicate 2 .accept } = .next u ∧ u.engine = .idle ∧ u.errcode = .none ∧
      u.sinkHolds.length = gray.sinkHolds.length + 2) ∧
    (∃ u, exec (.encrst true 0) { base with sampledWidth := 8, sampledHeight := 8, sink := List.replicate 306 .accept } = .next u ∧
      u.engine = .idle ∧ u.errcode = .none ∧ u.sinkHolds.length = base.sinkHolds.length + 306) ∧ 1 < 2 ∧ 305 < 306 :=
  ⟨⟨_, rfl, by decide +kernel, by decide +kernel, by decide +kernel⟩,
    ⟨_, rfl, by decide +kernel, by decide +kernel, by decide +kernel⟩, by decide, by decide⟩

theorem witness_StallsOnlyDelay :
    let s := { gray with sink := [.stall, .accept, .stall, .accept] }
    s.turns = [] ∧ ∃ v, exec .encfin { s with sink := s.sink.filter (· ≠ .stall) } = .next v ∧ v.engine = .idle :=
  ⟨by decide, _, rfl, by decide⟩

theorem witness_ByteBounds :
    (∃ t, exec .encfin { gray with bitacc := 0x7F, bitcnt := 7 } = .next t) ∧
    (∃ t, exec .encfin { gray with sink := [.stall] } = .next t ∧ t.engine = .offering 0xFF [0xD9] .closeSession) :=
  ⟨⟨_, rfl⟩, _, rfl, by decide⟩

theorem witness_StreamBookkeeping :
    gray.outCount = BitVec.ofNat 32 gray.stream.length ∧ (∃ t, step gray = .next t) ∧ ∀ rest, gray.turns ≠ .freshSink :: rest :=
  ⟨by decide, ⟨_, rfl⟩, by intro rest; exact List.cons_ne_nil _ _ |>.symm⟩

/-- P3 as a whole session: its stream has 320 bytes. -/
theorem witness_SessionStream_gray :
    ((base.setSlot 1 (blk vecE)).setQt 0 (buildTable baseL 50)).slotWritten 1 = true ∧
    ((runAll [.encrst true 0, .encblk1 1, .encfin]
      { (base.setSlot 1 (blk vecE)).setQt 0 (buildTable baseL 50) with sampledWidth := 8, sampledHeight := 8 }).map
        (·.stream.length) = some 320) := by decide +kernel

/-- A colour session of one all-zero MCU: 589 header bytes, 6 + 4 + 4 bits of scan padded to 2 bytes, and EOI. -/
theorem witness_SessionStream_colour :
    base.slotWritten 0 = true ∧
    ((runAll [.encrst true 1, .encblk3 0 0 0, .encfin] { base with sampledWidth := 8, sampledHeight := 8 }).map
      (·.stream.length) = some 593) := by decide +kernel

theorem witness_SessionTablesAreLatched :
    ∃ t, step ({ base with qt := Vector.replicate 2 (flat 3), width := 8, height := 8 }.withFetchWord 32 0x08000004) = .next t ∧
      t.sqt ≠ base.sqt := ⟨_, rfl, by decide +kernel⟩

theorem witness_StepKeepsSessionInvariant : gray.SessionInv ∧ ∃ t, step gray = .next t := by
  refine ⟨⟨fun _ => ⟨⟨by decide +kernel, fun h => absurd h (by decide)⟩, by decide, by decide, ?_⟩, trivial⟩, _, rfl⟩
  unfold State.bitsLegal; decide

end Sys2Proof.Tests
end

section
/-! SUPPORT. Command words that are no command, and operands out of range (spec/30_encoding.md R84-R86). -/

namespace Sys2Proof

/-! ### The bits of a field -/

/-- A mask of `k` bits at `lo` keeps the number those bits make, at its place. -/
theorem and_fieldMask (n lo k : Nat) : n &&& (2 ^ k - 1) * 2 ^ lo = n / 2 ^ lo % 2 ^ k * 2 ^ lo := by
  refine Nat.eq_of_testBit_eq fun j => ?_
  simp only [Nat.testBit_and, Nat.testBit_mul_two_pow, Nat.testBit_two_pow_sub_one, Nat.testBit_mod_two_pow,
    Nat.testBit_div_two_pow]
  by_cases hj : lo ≤ j
  · simp [hj, Bool.and_comm]
  · simp [hj]

/-- The bits `[lo+k-1:lo]` of a word make the number 0 exactly if their mask selects no set bit. -/
theorem and_fieldMask_eq_zero_iff (w : Word) {lo k : Nat} (h : lo + k ≤ 32) :
    w &&& BitVec.ofNat 32 ((2 ^ k - 1) * 2 ^ lo) = 0 ↔ w.toNat / 2 ^ lo % 2 ^ k = 0 := by
  have hmask : (2 ^ k - 1) * 2 ^ lo < 2 ^ 32 := by
    calc (2 ^ k - 1) * 2 ^ lo < 2 ^ k * 2 ^ lo := by gcongr; exact Nat.sub_lt (by positivity) one_pos
      _ = 2 ^ (lo + k) := by ring
      _ ≤ 2 ^ 32 := by gcongr; norm_num
  rw [← BitVec.toNat_inj, BitVec.toNat_and, BitVec.toNat_ofNat, Nat.mod_eq_of_lt hmask, and_fieldMask]
  simp

/-- A mask put together of two selects no set bit exactly if neither part does. -/
theorem and_or_eq_zero_iff (w a b : Word) : w &&& (a ||| b) = 0 ↔ w &&& a = 0 ∧ w &&& b = 0 := by
  rw [BitVec.and_or_distrib_left]
  exact BitVec.or_eq_zero_iff

section
variable (w : Word)

theorem fieldsOf_op_val : (fieldsOf w).op.val = (w.extractLsb' 24 8).toNat := by
  simp [fieldsOf, field8, BitVec.extractLsb'_toNat, Nat.shiftRight_eq_div_pow]

theorem fieldsOf_rd_eq_zero_iff : (fieldsOf w).rd = 0 ↔ w &&& 0x00F00000 = 0 := by
  rw [Fin.ext_iff]; exact (and_fieldMask_eq_zero_iff w (lo := 20) (k := 4) (by decide)).symm

theorem fieldsOf_rs1_eq_zero_iff : (fieldsOf w).rs1 = 0 ↔ w &&& 0x000F0000 = 0 := by
  rw [Fin.ext_iff]; exact (and_fieldMask_eq_zero_iff w (lo := 16) (k := 4) (by decide)).symm

theorem fieldsOf_rs2_eq_zero_iff : (fieldsOf w).rs2 = 0 ↔ w &&& 0x0000F000 = 0 := by
  rw [Fin.ext_iff]; exact (and_fieldMask_eq_zero_iff w (lo := 12) (k := 4) (by decide)).symm

theorem fieldsOf_rs3_eq_zero_iff : (fieldsOf w).rs3 = 0 ↔ w &&& 0x00000F00 = 0 := by
  rw [Fin.ext_iff]; exact (and_fieldMask_eq_zero_iff w (lo := 8) (k := 4) (by decide)).symm

theorem fieldsOf_imm_eq_zero_iff : (fieldsOf w).imm = 0 ↔ w &&& 0x000000FF = 0 := by
  rw [Fin.ext_iff]; exact (and_fieldMask_eq_zero_iff w (lo := 0) (k := 8) (by decide)).symm

theorem fieldsOf_imm_high_eq_zero_iff : (fieldsOf w).imm.val / 8 = 0 ↔ w &&& 0x000000F8 = 0 := by
  refine Iff.trans ?_ (and_fieldMask_eq_zero_iff w (lo := 3) (k := 5) (by decide)).symm
  simp only [fieldsOf, field8]
  omega

theorem fieldsOf_zero23i_iff : (fieldsOf w).zero23i = true ↔ w &&& 0x0000FFFF = 0 := by
  rw [show (0x0000FFFF : Word) = 0x0000F000 ||| 0x00000F00 ||| 0x000000FF from rfl]
  simp only [Fields.zero23i, Bool.and_eq_true, beq_iff_eq, and_or_eq_zero_iff, fieldsOf_rs2_eq_zero_iff,
    fieldsOf_rs3_eq_zero_iff, fieldsOf_imm_eq_zero_iff]

end

/-! ### Words that are no command (R84, R85) -/

/-- A field check that passes: the reserved fields are zero. -/
theorem ifReserved_eq_ok_iff {zero : Bool} {i j : Instr} : ifReserved zero i = .ok j ↔ zero = true ∧ i = j := by
  cases zero <;> simp [ifReserved]

/-- The opcode map has no row for 0x00 and none from 0x0C on (R84). -/
theorem decodeFields_of_reserved_op {f : Fields} (h : f.op.val = 0 ∨ 0x0C ≤ f.op.val) :
    decodeFields f = .error .reservedOpcode := by
  unfold decodeFields
  split
  case h_12 => rfl
  all_goals omega

/-- The bits of a word that its opcode's format marks `0` (R81), and `IMM[7:3]` of `ENCRST` (R82). -/
def reservedBits (op : Nat) : Word :=
  if op = 0x01 ∨ op = 0x02 ∨ op = 0x06 ∨ op = 0x07 then 0x0000FFFF
  else if op = 0x03 then 0x00000F00
  else if op = 0x04 then 0x00FFFF00
  else if op = 0x05 then 0x00000FFF
  else if op = 0x08 then 0x00FFFFF8
  else if op = 0x09 then 0x00F0FFFF
  else if op = 0x0A then 0x00F000FF
  else 0x00FFFFFF

/-- The decoder takes a word only if its reserved bits are 0 (R85). -/
theorem and_reservedBits_of_decode {w : Word} {i : Instr} (h : decode w = .ok i) :
    w &&& reservedBits (fieldsOf w).op.val = 0 := by
  unfold decode decodeFields at h
  split at h
  case h_12 => cases h
  -- one row of the opcode map each: its check is that the fields under the row's mask are 0
  all_goals
    rename_i hop
    have hz := (ifReserved_eq_ok_iff.1 h).1
    simp only [Bool.and_eq_true, beq_iff_eq, fieldsOf_zero23i_iff, fieldsOf_rd_eq_zero_iff, fieldsOf_rs1_eq_zero_iff,
      fieldsOf_rs2_eq_zero_iff, fieldsOf_rs3_eq_zero_iff, fieldsOf_imm_eq_zero_iff, fieldsOf_imm_high_eq_zero_iff,
      ← and_or_eq_zero_iff] at hz
    rw [hop]
    exact hz

end Sys2Proof

/-! ### Completions with `ILLEGAL_CMD` and `BAD_OPERAND` -/

namespace Sys2Proof.Machine

/-- A completion with an error writes the status and ends the command, and nothing else (R260). -/
theorem complete_of_error (s : State) {code : ErrorCode} (h : code ≠ .none) :
    s.complete code = { s with errcode := code, err := true, done := true, engine := .idle } := by
  have hb : (code != .none) = true := bne_iff_ne.2 h
  rw [State.complete, hb, Bool.or_true]

/-- An accepted word that is no command completes with `ILLEGAL_CMD` (R84, R85). -/
theorem engineTurn_of_rejected {s : State} {r : Reject} (he : s.engine = .accepted) (hd : decode s.cmd = .error r) :
    s.engineTurn = .next { s with errcode := .illegalCmd, err := true, done := true, engine := .idle } := by
  rw [State.engineTurn, he, hd, ← complete_of_error s (by decide)]

/-! ### Operands in range and out of range (R86) -/

/-- The operands R86 refuses: a table above 1, a base selector above 2, four slots that reach past the last one. -/
def OutOfRange : Instr → Prop
  | .qbuild t _ bsel _ => 1 < t.val ∨ 2 < bsel.val
  | .quant _ _ t => 1 < t.val
  | .downs _ b => 16 ≤ b.val + 3
  | .ups b _ => 16 ≤ b.val + 3
  | _ => False

/-- A 4-bit field always names one of the 16 slots. -/
@[simp] theorem wellFormed_slot (n : OpField) : WellFormed.slot n.val = true := slotOk_eq n

theorem wellFormed_table_eq_false_iff (t : Nat) : WellFormed.table t = false ↔ 1 < t := by
  rw [WellFormed.table, decide_eq_false_iff_not, not_le]

theorem wellFormed_baseSelector_eq_false_iff (bsel : Nat) : WellFormed.baseSelector bsel = false ↔ 2 < bsel := by
  rw [WellFormed.baseSelector, decide_eq_false_iff_not, not_le]

theorem wellFormed_fourSlots_eq_false_iff (b : Nat) : WellFormed.fourSlots b = false ↔ 16 ≤ b + 3 := by
  rw [WellFormed.fourSlots, decide_eq_false_iff_not, not_lt, Config.nslots]

/-- Only those operands make a command ill-formed. -/
theorem wellFormed_eq_false_iff (i : Instr) : i.wellFormed = false ↔ OutOfRange i := by
  cases i with
  | qbuild t a bsel q =>
      simp only [Instr.wellFormed, OutOfRange, wellFormed_slot, Bool.or_true, Bool.and_true, Bool.and_eq_false_iff,
        wellFormed_table_eq_false_iff, wellFormed_baseSelector_eq_false_iff]
  | quant d a t =>
      simp only [Instr.wellFormed, OutOfRange, wellFormed_slot, Bool.true_and, wellFormed_table_eq_false_iff]
  | downs d b =>
      simp only [Instr.wellFormed, OutOfRange, wellFormed_slot, Bool.true_and, wellFormed_fourSlots_eq_false_iff]
  | ups b a =>
      simp only [Instr.wellFormed, OutOfRange, wellFormed_slot, Bool.and_true, wellFormed_fourSlots_eq_false_iff]
  | _ => simp [Instr.wellFormed, OutOfRange]

/-- The selector that makes `QBUILD` read a slot, as the model's two range checks write it. -/
theorem bne_two_eq_val (bsel : OpField) : (bsel != 2) = (bsel.val != 2) := by
  rw [Bool.eq_iff_iff, bne_iff_ne, bne_iff_ne, ne_eq, ne_eq, Fin.ext_iff]; rfl

/-- An ill-formed command completes with `BAD_OPERAND`, before any other check. -/
theorem exec_of_illFormed {i : Instr} (h : i.wellFormed = false) (s : State) :
    exec i s = .next (s.complete .badOperand) := by
  have hc : (!i.wellFormed) = true := by rw [h]; rfl
  cases i with
  | qbuild t a bsel q => rw [exec, execQbuild, bne_two_eq_val]; exact congrArg Host.Outcome.next (if_pos hc)
  | qbuildp _ | encrst _ _ | encfin => exact Bool.noConfusion h
  | _ => exact congrArg Host.Outcome.next (if_pos hc)

/-! ### No other way to `BAD_OPERAND` -/

theorem errcode_complete_ne {s : State} {code e : ErrorCode} (h : code ≠ e) : (s.complete code).errcode ≠ e := h

theorem errcode_ite_ne {a b : State} {e : ErrorCode} (c : Bool) (ha : a.errcode ≠ e) (hb : b.errcode ≠ e) :
    (if c then a else b).errcode ≠ e := by
  split
  · exact ha
  · exact hb

theorem errcode_freeChoice_ne {s : State} {a b : State → State} {e : ErrorCode} (ha : (a (s.drawn 1)).errcode ≠ e)
    (hb : (b (s.drawn 1)).errcode ≠ e) : (s.freeChoice a b).errcode ≠ e := by
  rcases s.freeChoice_cases a b with h | h <;> rw [h]
  · exact ha
  · exact hb

/-- A well-formed command outside the encoder passes the operand check, and no later check raises `BAD_OPERAND`. -/
theorem exec_buffer_errcode_ne_badOperand {i : Instr} (hb : IsEncoder i = false) (hw : i.wellFormed = true) (s : State) :
    ∃ t, exec i s = .next t ∧ t.errcode ≠ .badOperand := by
  have hc : ¬ (!i.wellFormed) = true := by rw [hw]; decide
  have ok (u : State) : (u.complete .none).errcode ≠ .badOperand := errcode_complete_ne (by decide)
  have configuration (u : State) : (u.complete .configuration).errcode ≠ .badOperand := errcode_complete_ne (by decide)
  have dataRange (u : State) : (u.complete .dataRange).errcode ≠ .badOperand := errcode_complete_ne (by decide)
  cases i with
  | fdct _ _ | downs _ _ | ups _ _ =>
      exact ⟨_, congrArg Host.Outcome.next (if_neg hc), errcode_ite_ne _ (errcode_freeChoice_ne (dataRange _) (ok _))
        (errcode_ite_ne _ (dataRange _) (ok _))⟩
  | idct d a => exact ⟨_, congrArg Host.Outcome.next (if_neg hc), errcode_ite_ne _ (ok _) (ok _)⟩
  | qbuild t a bsel q =>
      rw [exec, execQbuild, bne_two_eq_val]
      exact ⟨_, congrArg Host.Outcome.next (if_neg hc), errcode_ite_ne _ (configuration _)
        (errcode_ite_ne _ (errcode_freeChoice_ne (configuration _) (ok _)) (errcode_ite_ne _ (configuration _) (ok _)))⟩
  | qbuildp q => exact ⟨_, rfl, errcode_ite_ne _ (configuration _) (ok _)⟩
  | quant d a t =>
      exact ⟨_, congrArg Host.Outcome.next (if_neg hc), errcode_ite_ne _ (configuration _) (errcode_ite_ne _ (ok _) (ok _))⟩
  | encrst _ _ | encblk1 _ | encblk3 _ _ _ | encfin => cases hb

/-- A command that offers its bytes completes without error or with `IO`. -/
theorem offer_errcode_ne_badOperand {s : State} {fin : Finish} {bytes : List Byte}
    (h : (s.offer fin bytes).engine = .idle) : (s.offer fin bytes).errcode ≠ .badOperand := by
  rcases s.offer_status fin bytes with ⟨-, -, ⟨hc, -⟩ | ⟨hc, -⟩⟩ | ⟨⟨b, rest, hold⟩, -⟩
  · rw [hc]; decide
  · rw [hc]; decide
  · rw [h] at hold; cases hold

/-- The errors the encoder raises itself are not `BAD_OPERAND`. -/
theorem failEncoder_errcode_ne_badOperand {s : State} {code : ErrorCode}
    (h : code = .sequencing ∨ code = .configuration ∨ code = .dataRange) : (s.failEncoder code).errcode ≠ .badOperand := by
  refine errcode_complete_ne ?_
  rcases h with rfl | rfl | rfl <;> decide

/-- An encoder command, whose slots are always in range, never completes with `BAD_OPERAND`. -/
theorem exec_encoder_errcode_ne_badOperand {i : Instr} (hb : IsEncoder i = true) (s : State) :
    ∃ t, exec i s = .next t ∧ (t.engine = .idle → t.errcode ≠ .badOperand) := by
  cases i with
  | encrst expl mode =>
      rcases exec_encrst_cases expl mode s with h | ⟨_, -, -, -, -, h⟩
      · exact ⟨_, h, fun _ => failEncoder_errcode_ne_badOperand (by decide)⟩
      · exact ⟨_, h, offer_errcode_ne_badOperand⟩
  | encblk1 a =>
      rcases exec_encblk1_cases a s with ⟨_, hcode, _, h⟩ | ⟨-, -, -, ⟨-, h⟩ | ⟨-, _, -, h⟩⟩
      · exact ⟨_, h, fun _ => failEncoder_errcode_ne_badOperand hcode⟩
      · exact ⟨_, h, offer_errcode_ne_badOperand⟩
      · exact ⟨_, h, offer_errcode_ne_badOperand⟩
  | encblk3 a b c =>
      rcases exec_encblk3_cases a b c s with ⟨_, hcode, _, h⟩ | ⟨-, -, -, ⟨-, h⟩ | ⟨-, _, _, _, -, -, -, h⟩⟩
      · exact ⟨_, h, fun _ => failEncoder_errcode_ne_badOperand hcode⟩
      · exact ⟨_, h, offer_errcode_ne_badOperand⟩
      · exact ⟨_, h, offer_errcode_ne_badOperand⟩
  | encfin =>
      rcases exec_encfin_cases s with ⟨-, h⟩ | ⟨-, h⟩
      · exact ⟨_, h, offer_errcode_ne_badOperand⟩
      · exact ⟨_, h, fun _ => errcode_complete_ne (by decide)⟩
  | _ => cases hb

/-- A command with its operands in range never completes with `BAD_OPERAND`. -/
theorem exec_errcode_ne_badOperand_of_wellFormed {i : Instr} (hw : i.wellFormed = true) {s t : State} (he : exec i s = .next t)
    (hi : t.engine = .idle) : t.errcode ≠ .badOperand := by
  cases hb : IsEncoder i with
  | true =>
      obtain ⟨u, hu, hcode⟩ := exec_encoder_errcode_ne_badOperand hb s
      cases hu.symm.trans he
      exact hcode hi
  | false =>
      obtain ⟨u, hu, hcode⟩ := exec_buffer_errcode_ne_badOperand hb hw s
      cases hu.symm.trans he
      exact hcode

end Sys2Proof.Machine

/-! ### The obligations -/

open Sys2Proof Sys2Proof.Machine

/-- Settles O4: the opcode map has no row for the opcode, so the word is rejected. -/
theorem reservedOpcodesAreIllegal : Obligations.ReservedOpcodesAreIllegal := by
  intro s he hop
  refine engineTurn_of_rejected he (decodeFields_of_reserved_op ?_)
  rw [fieldsOf_op_val]
  exact hop.imp_left (congrArg BitVec.toNat)

/-- Settles O5: a word the decoder takes has its reserved bits 0. -/
theorem reservedFieldsAreIllegal : Obligations.ReservedFieldsAreIllegal := by
  unfold Obligations.ReservedFieldsAreIllegal
  intro reserved s he _ _ hne
  cases hd : decode s.cmd with
  | error r => exact engineTurn_of_rejected he hd
  | ok i =>
      have hzero := and_reservedBits_of_decode hd
      rw [fieldsOf_op_val] at hzero
      exact absurd hzero hne

/-- Settles O6: the ill-formed commands are those with an operand out of range; the operand check comes first in every command
that has one, and raises `BAD_OPERAND` alone. -/
theorem badOperandsComplete : Obligations.BadOperandsComplete := by
  unfold Obligations.BadOperandsComplete
  intro bad i s
  have hbad : i.wellFormed = false ↔ bad i := by
    refine (wellFormed_eq_false_iff i).trans ?_
    cases i <;> rfl
  refine ⟨hbad, fun h => ?_, fun h t => ?_⟩
  · rw [exec_of_illFormed (hbad.2 h), complete_of_error s (by decide)]
  · exact exec_errcode_ne_badOperand_of_wellFormed (Bool.eq_true_of_not_eq_false (mt hbad.1 h))

end

section
/-! SUPPORT. The range of the forward transform (spec/40_transform.md R114). A coefficient is the sum of the samples with the weights
`basis u x * basis v y`. Apart from the DC term the weights of a coefficient have the sum 0, so the samples may be centred on
`255 / 2` instead of 128, and no weights have a larger sum of magnitudes than those at `u, v` in 0 and 4. -/

namespace Sys2Proof.Machine

/-! ### Categories -/

/-- The category is the number of bits of the magnitude (R212). -/
theorem category_le_iff (v : Int) (n : Nat) : category v ≤ n ↔ v.natAbs < 2 ^ n := by
  unfold category
  split
  · next h => simp [h]
  · next h => exact Nat.log2_lt (Int.natAbs_ne_zero.2 h)

/-! ### Rounding -/

section
variable {acc n : Int}

/-- An accumulator below `n + 1/2` by more than the tolerance is rounded to `n` at most. -/
theorem roundExact_le (h : 2 * (acc + dctTolerance) < (2 * n + 1) * dctScale) : roundExact acc ≤ n := by
  have hnear := (abs_le.1 (roundExact_near acc)).2
  have hr : roundExact acc * dctScale < (n + 1) * dctScale := by linarith
  exact Int.lt_add_one_iff.1 (lt_of_mul_lt_mul_right hr dctScale_pos.le)

/-- An accumulator above `n - 1/2` by more than the tolerance is rounded to `n` at least. -/
theorem le_roundExact (h : (2 * n - 1) * dctScale < 2 * (acc - dctTolerance)) : n ≤ roundExact acc := by
  have hnear := (abs_le.1 (roundExact_near acc)).1
  have hr : (n - 1) * dctScale < roundExact acc * dctScale := by linarith
  exact Int.sub_one_lt_iff.1 (lt_of_mul_lt_mul_right hr dctScale_pos.le)

end

/-! ### The weights of a coefficient -/

/-- A sum over a block is a sum over its rows and columns (R14). -/
theorem sum_raster {M : Type*} [AddCommMonoid M] (f : Fin 8 → Fin 8 → M) :
    ∑ j : Fin 64, f (row j) (col j) = ∑ y, ∑ x, f y x := by
  rw [← Fintype.sum_prod_type']
  exact Fintype.sum_equiv (finProdFinEquiv (m := 8) (n := 8)).symm _ _ fun _ => rfl

theorem sum_basis {u : Fin 8} (hu : u ≠ 0) : ∑ x, basis u x = 0 := by
  revert u; decide

theorem sum_abs_basis_le (u : Fin 8) : ∑ x, |basis u x| ≤ 8 * cosK 4 := by
  revert u; decide

theorem eq_zero_of_row_col {i : Fin 64} (hrow : row i = 0) (hcol : col i = 0) : i = 0 := by
  have h := eight_row_add_col i
  rw [hrow, hcol] at h
  exact Fin.ext h.symm

/-- The weight of sample `j` in coefficient `i` (R112). -/
def fdctWeight (i j : Fin 64) : Int := basis (col i) (col j) * basis (row i) (row j)

theorem fdctAcc_eq_sum (b : Block) (i : Fin 64) : fdctAcc b i = ∑ j : Fin 64, (b[j].toInt - 128) * fdctWeight i j := by
  simp only [fdctAcc, sum64_eq_sum, fdctWeight, mul_assoc]

/-- The weights of a coefficient other than the DC term have the sum 0. -/
theorem sum_fdctWeight {i : Fin 64} (hi : i ≠ 0) : ∑ j, fdctWeight i j = 0 := by
  have hfactor : ∑ j, fdctWeight i j = (∑ y, basis (row i) y) * ∑ x, basis (col i) x := by
    rw [Finset.sum_mul_sum, ← sum_raster]
    exact Finset.sum_congr rfl fun _ _ => mul_comm _ _
  rw [hfactor]
  by_cases hrow : row i = 0
  · rw [sum_basis fun hcol => hi (eq_zero_of_row_col hrow hcol), mul_zero]
  · rw [sum_basis hrow, zero_mul]

/-- The weights have the sum of magnitudes they have at `u, v` in 0 and 4, or less. -/
theorem sum_abs_fdctWeight_le (i : Fin 64) : ∑ j, |fdctWeight i j| ≤ (8 * cosK 4) * (8 * cosK 4) := by
  calc ∑ j, |fdctWeight i j| = (∑ y, |basis (row i) y|) * ∑ x, |basis (col i) x| := by
        rw [Finset.sum_mul_sum, ← sum_raster]
        exact Finset.sum_congr rfl fun _ _ => (abs_mul _ _).trans (mul_comm _ _)
    _ ≤ (8 * cosK 4) * (8 * cosK 4) := by
        gcongr
        · decide
        · exact sum_abs_basis_le _
        · exact sum_abs_basis_le _

/-! ### The range of a coefficient -/

section
variable {b : Block} (hb : Samples b)
include hb

/-- The DC term weighs all samples alike, so its accumulator is largest on the blocks of 0 and of 255. -/
theorem fdctAcc_zero_bounds :
    -8192 * (cosK 4 * cosK 4) ≤ fdctAcc b 0 ∧ fdctAcc b 0 ≤ 8128 * (cosK 4 * cosK 4) := by
  have hacc : fdctAcc b 0 = (∑ j : Fin 64, (b[j].toInt - 128)) * (cosK 4 * cosK 4) := by
    rw [fdctAcc_eq_sum, Finset.sum_mul]; rfl
  have hlo : -8192 ≤ ∑ j : Fin 64, (b[j].toInt - 128) := by
    simpa using Finset.card_nsmul_le_sum Finset.univ (fun j : Fin 64 => b[j].toInt - 128) (-128) fun j _ => by
      linarith [(hb j).1]
  have hhi : ∑ j : Fin 64, (b[j].toInt - 128) ≤ 8128 := by
    simpa using Finset.sum_le_card_nsmul Finset.univ (fun j : Fin 64 => b[j].toInt - 128) 127 fun j _ => by
      linarith [(hb j).2]
  rw [hacc]
  exact ⟨mul_le_mul_of_nonneg_right hlo (by decide), mul_le_mul_of_nonneg_right hhi (by decide)⟩

/-- Centred on `255 / 2`, where the weights have the sum 0, every sample has magnitude `255 / 2` at most. -/
theorem abs_two_mul_fdctAcc_le {i : Fin 64} (hi : i ≠ 0) :
    |2 * fdctAcc b i| ≤ 255 * ((8 * cosK 4) * (8 * cosK 4)) := by
  have hcentred : 2 * fdctAcc b i = ∑ j : Fin 64, (2 * b[j].toInt - 255) * fdctWeight i j := by
    have hterm (j : Fin 64) :
        (2 * b[j].toInt - 255) * fdctWeight i j = 2 * ((b[j].toInt - 128) * fdctWeight i j) + fdctWeight i j := by ring
    simp only [hterm, Finset.sum_add_distrib, ← Finset.mul_sum, sum_fdctWeight hi, ← fdctAcc_eq_sum, add_zero]
  have hsample (j : Fin 64) : |2 * b[j].toInt - 255| ≤ 255 := by
    rw [abs_le]
    constructor <;> linarith [(hb j).1, (hb j).2]
  calc |2 * fdctAcc b i| ≤ ∑ j : Fin 64, |(2 * b[j].toInt - 255) * fdctWeight i j| := by
        rw [hcentred]; exact Finset.abs_sum_le_sum_abs _ _
    _ ≤ ∑ j, 255 * |fdctWeight i j| := by
        gcongr with j
        rw [abs_mul]
        gcongr
        exact hsample j
    _ ≤ 255 * ((8 * cosK 4) * (8 * cosK 4)) := by
        rw [← Finset.mul_sum]
        gcongr
        exact sum_abs_fdctWeight_le i

/-- The range of the DC term (R114). -/
theorem roundExact_fdctAcc_zero_bounds : -1024 ≤ roundExact (fdctAcc b 0) ∧ roundExact (fdctAcc b 0) ≤ 1016 := by
  obtain ⟨hlo, hhi⟩ := fdctAcc_zero_bounds hb
  have hleast : (2 * -1024 - 1) * dctScale < 2 * (-8192 * (cosK 4 * cosK 4) - dctTolerance) := by decide
  have hgreatest : 2 * (8128 * (cosK 4 * cosK 4) + dctTolerance) < (2 * 1016 + 1) * dctScale := by decide
  exact ⟨le_roundExact (by linarith), roundExact_le (by linarith)⟩

/-- The range of an AC coefficient (R114). -/
theorem abs_roundExact_fdctAcc_le {i : Fin 64} (hi : i ≠ 0) : |roundExact (fdctAcc b i)| ≤ 1020 := by
  obtain ⟨hlo, hhi⟩ := abs_le.1 (abs_two_mul_fdctAcc_le hb hi)
  have hgreatest :
      255 * ((8 * cosK 4) * (8 * cosK 4)) + 2 * dctTolerance < (2 * 1020 + 1) * dctScale := by decide
  exact abs_le.2 ⟨le_roundExact (by linarith), roundExact_le (by linarith)⟩

/-- A slot entry holds every coefficient of a block of samples. -/
theorem fdctBlock_toInt (i : Fin 64) : ((fdctBlock b)[i]).toInt = roundExact (fdctAcc b i) := by
  have hfit : -1024 ≤ roundExact (fdctAcc b i) ∧ roundExact (fdctAcc b i) ≤ 1020 := by
    by_cases hi : i = 0
    · rw [hi]
      exact (roundExact_fdctAcc_zero_bounds hb).imp_right fun h => h.trans (by decide)
    · exact (abs_le.1 (abs_roundExact_fdctAcc_le hb hi)).imp_left (le_trans (by decide))
  simpa [fdctBlock] using BitVec.toInt_ofInt_eq_self (w := 16) (by decide) (by omega) (by omega)

end

end Sys2Proof.Machine

/-! ### The obligation -/

open Sys2Proof Sys2Proof.Machine

/-- Settles O25: the ranges come from the sums of the weights and of their magnitudes; the categories follow from the ranges. -/
theorem fdctResultRange : Obligations.FdctResultRange := by
  unfold Obligations.FdctResultRange
  intro b hb
  dsimp only
  obtain ⟨hlo, hhi⟩ := roundExact_fdctAcc_zero_bounds hb
  refine ⟨⟨hlo, hhi⟩, fun i hi => ?_, fdctBlock_toInt hb, fun b' hb' => ?_⟩
  · have hac := abs_roundExact_fdctAcc_le hb hi
    obtain ⟨hac_lo, hac_hi⟩ := abs_le.1 hac
    exact ⟨hac, (category_le_iff _ _).2 (by omega)⟩
  · obtain ⟨hlo', hhi'⟩ := roundExact_fdctAcc_zero_bounds hb'
    exact (category_le_iff _ _).2 (by omega)

end

section
/-! SUPPORT. The scaling law of the quantization tables and the rounding of the quantizer (spec/41_quantization.md R132, R135, R136). -/

namespace Sys2Proof.Machine

/-! ### The scaling law -/

/-- A step up in quality does not raise the scale; the two branches meet at `5000 / 49 = 102` and `100` (R135 (b)). -/
theorem qualityScale_succ_le {q : Nat} (hq : 1 ≤ q) : qualityScale (q + 1) ≤ qualityScale q := by
  unfold qualityScale
  obtain hlow | rfl | hhigh := lt_trichotomy q 49
  · rw [if_pos (by omega), if_pos (by omega)]
    exact Nat.div_le_div_left q.le_succ hq
  · decide
  · rw [if_neg (by omega), if_neg (by omega)]
    omega

theorem tableEntry_bounds (base q : Nat) : 1 ≤ tableEntry base q ∧ tableEntry base q ≤ 255 :=
  ⟨le_min (by decide) (le_max_left _ _), min_le_left _ _⟩

/-- An entry depends on the quality through the scale alone, and does not fall as the scale grows. -/
theorem tableEntry_le_of_scale_le (base : Nat) {q q' : Nat} (h : qualityScale q ≤ qualityScale q') :
    tableEntry base q ≤ tableEntry base q' := by
  unfold tableEntry
  gcongr

theorem tableEntry_hundred (base : Nat) : tableEntry base 100 = 1 := by
  simp [tableEntry, qualityScale]

/-- At quality 1 the unclamped entry is `50 * base`. -/
theorem tableEntry_one (base : Nat) : tableEntry base 1 = min 255 (max 1 (50 * base)) := by
  have hentry : (base * 5000 + 50) / 100 = 50 * base := by omega
  simp [tableEntry, qualityScale, hentry]

theorem tableEntry_one_eq_max_iff (base : Nat) : tableEntry base 1 = 255 ↔ 6 ≤ base := by
  rw [tableEntry_one]
  omega

theorem six_le_standardBase (i : Fin 64) : 6 ≤ baseL[i] ∧ 6 ≤ baseC[i] := by
  revert i; decide

/-! ### The quantizer -/

/-- The magnitude of the quotient is `|c| / f + 1/2` rounded down. -/
theorem floor_abs_div_add_half (c : Int) {f : Nat} (hf : 1 ≤ f) :
    ⌊|(c : ℚ)| / f + 1 / 2⌋ = ((c.natAbs + f / 2) / f : Nat) := by
  have hf0 : (f : ℚ) ≠ 0 := by positivity
  have hfrac : |(c : ℚ)| / f + 1 / 2 = ((2 * c.natAbs + f : Nat) : ℚ) / ((2 * f : Nat) : ℚ) := by
    push_cast [Nat.cast_natAbs]
    field_simp
  have hhalf : (2 * c.natAbs + f) / 2 = c.natAbs + f / 2 := by omega
  rw [hfrac, Rat.floor_natCast_div_natCast, ← Int.natCast_div, ← Nat.div_div_eq_div_mul, hhalf]

/-- Twice a magnitude is even, and an odd factor has only odd halves. -/
theorem two_mul_ne_odd_mul {f : Nat} (hf : f % 2 = 1) (n k : Nat) : 2 * n ≠ (2 * k + 1) * f := by
  have hodd : Odd ((2 * k + 1) * f) := (odd_two_mul_add_one k).mul (Nat.odd_iff.2 hf)
  intro h
  exact Nat.not_odd_iff_even.2 (even_two_mul n) (h ▸ hodd)

theorem abs_quantize {c : Int} (hc : c ≠ 0) (f : Nat) : |quantize c f| = ((c.natAbs + f / 2) / f : Nat) := by
  rw [quantize, abs_mul, Int.abs_sign_of_ne_zero hc, one_mul, Nat.abs_cast]

/-- A magnitude halfway between `k` and `k + 1` times an even factor goes to `k + 1`. -/
theorem abs_quantize_half {c : Int} {f k : Nat} (hf : 1 ≤ f) (heven : f % 2 = 0) (hc : c.natAbs = k * f + f / 2) :
    |quantize c f| = k + 1 := by
  have hsum : c.natAbs + f / 2 = (k + 1) * f := by
    rw [hc, Nat.succ_mul]
    omega
  rw [abs_quantize (Int.natAbs_ne_zero.1 (by omega)), hsum, Nat.mul_div_cancel _ hf, Nat.cast_succ]

/-- Rounding a quotient by a whole factor does not go past the dividend. -/
theorem add_half_div_le (n : Nat) {f : Nat} (hf : 1 ≤ f) : (n + f / 2) / f ≤ n := by
  have hn : n * 1 ≤ n * f := Nat.mul_le_mul_left n hf
  have hlt : n + f / 2 < (n + 1) * f := by
    rw [Nat.succ_mul]
    omega
  exact Nat.le_of_lt_succ ((Nat.div_lt_iff_lt_mul hf).2 hlt)

/-- A quantized coefficient lies between 0 and the coefficient. -/
theorem quantize_between (c : Int) {f : Nat} (hf : 1 ≤ f) : min c 0 ≤ quantize c f ∧ quantize c f ≤ max c 0 := by
  have hle := add_half_div_le c.natAbs hf
  unfold quantize
  generalize (c.natAbs + f / 2) / f = n at hle ⊢
  obtain hneg | rfl | hpos := lt_trichotomy c 0
  · rw [Int.sign_eq_neg_one_of_neg hneg]
    omega
  · simp
  · rw [Int.sign_eq_one_of_pos hpos]
    omega

end Sys2Proof.Machine

/-! ### The obligations -/

open Sys2Proof Sys2Proof.Machine

/-- Settles O32: (b) comes from the scale, (d) from the unclamped entry `50 * base` at quality 1. -/
theorem scalingLawProperties : Obligations.ScalingLawProperties := by
  unfold Obligations.ScalingLawProperties
  refine ⟨fun base q _ _ _ _ => tableEntry_bounds base q, fun base q _ _ hq _ => ?_, fun base _ _ => tableEntry_hundred base,
    fun B _ => forall_congr' fun i => tableEntry_one_eq_max_iff B[i], fun i => ?_⟩
  · exact tableEntry_le_of_scale_le base (qualityScale_succ_le hq)
  · exact (six_le_standardBase i).imp (tableEntry_one_eq_max_iff _).2 (tableEntry_one_eq_max_iff _).2

/-- Settles O33: the bounds hold because a quantized coefficient lies between 0 and the coefficient. -/
theorem quantizerRoundsHalfAway : Obligations.QuantizerRoundsHalfAway := by
  unfold Obligations.QuantizerRoundsHalfAway
  refine ⟨fun c f hlo hhi hf _ => ?_, by decide, by decide⟩
  obtain ⟨hge, hle⟩ := quantize_between c hf
  refine ⟨?_, ?_, fun hodd => two_mul_ne_odd_mul hodd c.natAbs, fun k => abs_quantize_half hf, abs_le.2 (by omega), ?_⟩
  · rw [quantize, Nat.shiftRight_one]
  · rw [quantize, floor_abs_div_add_half c hf]
  · exact BitVec.toInt_ofInt_eq_self (w := 16) (by decide) (by omega) (by omega)

end

section
/-! SUPPORT. The session and the commands that leave it alone (spec/43_encoder.md R191, R193). -/

namespace Sys2Proof.Machine

/-! ### Noninterference with the session -/

/-- What `g` reads of the state, the session does not decide. -/
def SessionFree {α : Type} (g : State → α) : Prop := ∀ s u, g (s.withSessionOf u) = g s

/-- `f` neither reads nor writes the session: it does the same whatever the session is, and keeps it. -/
def SessionBlind (f : State → State) : Prop := ∀ s u, f (s.withSessionOf u) = (f s).withSessionOf u

/-- `SessionBlind` alone says that the session stays: a state with its own session is itself. -/
theorem SessionBlind.keeps {f : State → State} (h : SessionBlind f) (s : State) : f s = (f s).withSessionOf s := h s s

theorem SessionBlind.comp {f g : State → State} (hg : SessionBlind g) (hf : SessionBlind f) : SessionBlind fun s => g (f s) :=
  fun s u => (congrArg g (hf s u)).trans (hg (f s) u)

theorem sessionBlind_drawn (k : Nat) : SessionBlind (·.drawn k) := fun _ _ => rfl

theorem sessionBlind_complete (code : ErrorCode) : SessionBlind (·.complete code) := fun _ _ => rfl

theorem SessionBlind.succeed {f : State → State} (hf : SessionBlind f) : SessionBlind fun s => (f s).complete .none :=
  (sessionBlind_complete .none).comp hf

theorem sessionBlind_setSlot (n : OpField) {b : State → Block} (hb : SessionFree b) : SessionBlind fun s => s.setSlot n (b s) :=
  fun s u => congrArg ((s.withSessionOf u).setSlot n) (hb s u)

theorem sessionBlind_setQt (t : Fin 2) {b : State → Table} (hb : SessionFree b) : SessionBlind fun s => s.setQt t (b s) :=
  fun s u => congrArg ((s.withSessionOf u).setQt t) (hb s u)

theorem sessionBlind_setQuadrants (n : OpField) {q : State → Vector Block 4} (hq : SessionFree q) :
    SessionBlind fun s => s.setQuadrants n (q s) :=
  fun s u => congrArg ((s.withSessionOf u).setQuadrants n) (hq s u)

theorem sessionBlind_setFreeSlot (n : OpField) : SessionBlind (·.setFreeSlot n) := fun _ _ => rfl

theorem sessionBlind_setFreeQt (t : Fin 2) : SessionBlind (·.setFreeQt t) := fun _ _ => rfl

theorem sessionBlind_setFreeQuadrants (n : OpField) : SessionBlind (·.setFreeQuadrants n) := fun _ _ => rfl

/-- A branch on what the session does not decide. -/
theorem sessionBlind_ite {c : State → Bool} {f g : State → State} (hc : SessionFree c) (hf : SessionBlind f)
    (hg : SessionBlind g) : SessionBlind fun s => if c s then f s else g s := by
  intro s u
  dsimp only
  rw [hc, hf, hg]
  exact (apply_ite (State.withSessionOf · u) _ _ _).symm

/-- A free choice is drawn by the counter `draws`, which is not the session's. -/
theorem sessionBlind_freeChoice {a b : State → State} (ha : SessionBlind a) (hb : SessionBlind b) :
    SessionBlind (·.freeChoice a b) :=
  sessionBlind_ite (c := fun s => (Config.freeWord s.draws).getLsbD 0) (fun _ _ => rfl)
    (ha.comp (sessionBlind_drawn 1)) (hb.comp (sessionBlind_drawn 1))

/-- A command outside the encoder is blind to the session: no check of its operands, of the RAMs or of the quality reads it, and
what it writes are the RAMs, the draws and the completion. -/
theorem exec_sessionBlind {i : Instr} (h : IsEncoder i = false) :
    ∃ f, (∀ s, exec i s = .next (f s)) ∧ SessionBlind f := by
  have fail := sessionBlind_complete
  cases i with
  | fdct d _ | downs d _ =>
      exact ⟨_, fun _ => rfl,
        sessionBlind_ite (fun _ _ => rfl) (fail _) <|
        sessionBlind_ite (fun _ _ => rfl) (sessionBlind_freeChoice (fail _) (sessionBlind_setFreeSlot d).succeed) <|
        sessionBlind_ite (fun _ _ => rfl) (fail _) (sessionBlind_setSlot d fun _ _ => rfl).succeed⟩
  | idct d _ =>
      exact ⟨_, fun _ => rfl,
        sessionBlind_ite (fun _ _ => rfl) (fail _) <|
        sessionBlind_ite (fun _ _ => rfl) (sessionBlind_setFreeSlot d).succeed
          (sessionBlind_setSlot d fun _ _ => rfl).succeed⟩
  | qbuild t _ _ _ =>
      exact ⟨_, fun _ => rfl,
        sessionBlind_ite (fun _ _ => rfl) (fail _) <|
        sessionBlind_ite (fun _ _ => rfl) (fail _) <|
        sessionBlind_ite (fun _ _ => rfl) (sessionBlind_freeChoice (fail _) (sessionBlind_setFreeQt (tableIndex t)).succeed) <|
        sessionBlind_ite (fun _ _ => rfl) (fail _) (sessionBlind_setQt (tableIndex t) fun _ _ => rfl).succeed⟩
  | qbuildp q =>
      exact ⟨_, fun _ => rfl,
        sessionBlind_ite (fun _ _ => rfl) (fail _)
          ((sessionBlind_setQt 1 (b := fun _ => buildTable baseC q) fun _ _ => rfl).comp
            (sessionBlind_setQt 0 (b := fun _ => buildTable baseL q) fun _ _ => rfl)).succeed⟩
  | quant d _ _ =>
      exact ⟨_, fun _ => rfl,
        sessionBlind_ite (fun _ _ => rfl) (fail _) <|
        sessionBlind_ite (fun _ _ => rfl) (fail _) <|
        sessionBlind_ite (fun _ _ => rfl) (sessionBlind_setFreeSlot d).succeed
          (sessionBlind_setSlot d fun _ _ => rfl).succeed⟩
  | ups b _ =>
      exact ⟨_, fun _ => rfl,
        sessionBlind_ite (fun _ _ => rfl) (fail _) <|
        sessionBlind_ite (fun _ _ => rfl) (sessionBlind_freeChoice (fail _) (sessionBlind_setFreeQuadrants b).succeed) <|
        sessionBlind_ite (fun _ _ => rfl) (fail _) (sessionBlind_setQuadrants b fun _ _ => rfl).succeed⟩
  | encrst _ _ | encblk1 _ | encblk3 _ _ _ | encfin => cases h

/-! ### Completion without error -/

/-- A completion without error keeps `ERR` (R260). -/
theorem complete_none (s : State) :
    s.complete .none = { s with errcode := .none, done := true, engine := .idle } := by
  rw [State.complete, bne_self_eq_false, Bool.or_false]

end Sys2Proof.Machine

/-! ### The obligations -/

open Sys2Proof Sys2Proof.Machine

/-- Settles O21: what a command outside the encoder does is blind to the session, which gives both halves. -/
theorem sessionUntouchedByOtherCommands : Obligations.SessionUntouchedByOtherCommands := by
  unfold Obligations.SessionUntouchedByOtherCommands
  intro i s u hi
  obtain ⟨f, hexec, hblind⟩ := exec_sessionBlind hi
  exact ⟨f s, hexec s, hblind.keeps s, (hexec _).trans (congrArg _ (hblind s u))⟩

/-- Settles O48: of the two ways `ENCFIN` goes, only the one that closes is left, and its completion keeps `ERR`. -/
theorem encfinOutsideReady : Obligations.EncfinOutsideReady := by
  unfold Obligations.EncfinOutsideReady
  intro s hs
  obtain ⟨hready, -⟩ | ⟨-, hexec⟩ := exec_encfin_cases s
  · exact absurd hready hs
  · rw [hexec, complete_none]

end

section
/-! SUPPORT. Illegal host accesses (spec/60_exceptions.md R271). -/

namespace Sys2Proof.Machine.State

/-- An illegal read gets a bus error (R62). -/
theorem hostAccess_read_illegal (s : State) {off : Fin 8192} {bytes : Nat} (h : ¬ (bytes = 4 ∧ off.val % 4 = 0)) :
    s.hostAccess (.read off bytes) = { s with busReply := .busError } :=
  if_neg h

/-- An illegal write gets a bus error (R62), and the word is dropped. -/
theorem hostAccess_write_illegal (s : State) {off : Fin 8192} {bytes : Nat} (v : Word)
    (h : ¬ (bytes = 4 ∧ off.val % 4 = 0)) :
    s.hostAccess (.write off bytes v) = { s with busReply := .busError } :=
  if_neg h

end Sys2Proof.Machine.State

/-! ### The obligation -/

open Sys2Proof Sys2Proof.Machine

/-- Settles O11: both kinds of access check width and alignment before they reach the window. -/
theorem illegalAccessesChangeNothing : Obligations.IllegalAccessesChangeNothing := by
  unfold Obligations.IllegalAccessesChangeNothing
  intro s off bytes v h
  exact ⟨s.hostAccess_read_illegal h, s.hostAccess_write_illegal v h⟩

end

section
/-! SUPPORT. The encoder and the decoder are inverse to each other, and the words of the assembler's table (spec/30_encoding.md R81, R91). -/

namespace Sys2Proof

/-! ### Round trips -/

/-- The decoder reads back the fields the encoder wrote. -/
theorem decode_encode_eq (i : Instr) : decode (encode i) = decodeFields (encodeFields i) :=
  congrArg decodeFields (fieldsOf_toWord _)

/-- The opcode map takes the fields of a command to that command. -/
theorem decodeFields_encodeFields (i : Instr) : decodeFields (encodeFields i) = .ok i := by
  cases i with
  | encrst expl mode => revert expl mode; decide
  | _ => rfl

/-- `EXPL` and `MODE` make up an `IMM` field whose bits 7 to 3 are 0 (R82). -/
theorem expl_add_mode {n : Nat} (h : n / 8 = 0) : (if n / 4 % 2 = 1 then 4 else 0) + n % 4 = n := by
  split <;> omega

/-- What the opcode map takes are the fields of the command it names: every other field is checked to be 0 (R85). -/
theorem encodeFields_of_decodeFields {f : Fields} {i : Instr} (h : decodeFields f = .ok i) : encodeFields i = f := by
  obtain ⟨op, rd, rs1, rs2, rs3, imm⟩ := f
  unfold decodeFields at h
  split at h
  case h_12 => cases h
  -- one row of the opcode map each
  all_goals
    rename_i hop
    obtain ⟨hz, rfl⟩ := ifReserved_eq_ok_iff.1 h
    simp only [Fields.zero23i, Bool.and_eq_true, beq_iff_eq] at hz
    dsimp only at hop
    simp [encodeFields, hz, hop, Fin.ext_iff, expl_add_mode]

/-! ### The word as an or of shifted fields -/

/-- Two numbers with their bits apart: the sum is the or. -/
theorem mul_two_pow_or {a b k : Nat} (h : b < 2 ^ k) : a * 2 ^ k ||| b = a * 2 ^ k + b := by
  rw [Nat.mul_comm, Nat.two_pow_add_eq_or_of_lt h]

/-- A field at its position in the word, as a number. -/
theorem toNat_ofNat_shiftLeft {a k : Nat} (h : a * 2 ^ k < 2 ^ 32) : (BitVec.ofNat 32 a <<< k).toNat = a * 2 ^ k := by
  have ha : a < 2 ^ 32 := lt_of_le_of_lt (Nat.le_mul_of_pos_right a (by positivity)) h
  rw [BitVec.toNat_shiftLeft, BitVec.toNat_ofNat, Nat.mod_eq_of_lt ha, Nat.shiftLeft_eq, Nat.mod_eq_of_lt h]

/-- The fields stand at their positions and nowhere else (R80). -/
theorem toWord_eq_or (f : Fields) :
    f.toWord = BitVec.ofNat 32 f.op.val <<< 24 ||| BitVec.ofNat 32 f.rd.val <<< 20 ||| BitVec.ofNat 32 f.rs1.val <<< 16 |||
      BitVec.ofNat 32 f.rs2.val <<< 12 ||| BitVec.ofNat 32 f.rs3.val <<< 8 ||| BitVec.ofNat 32 f.imm.val := by
  obtain ⟨op, rd, rs1, rs2, rs3, imm⟩ := f
  apply BitVec.eq_of_toNat_eq
  simp only [toWord_toNat, BitVec.toNat_or, Nat.or_assoc]
  rw [toNat_ofNat_shiftLeft (by omega), toNat_ofNat_shiftLeft (by omega), toNat_ofNat_shiftLeft (by omega),
    toNat_ofNat_shiftLeft (by omega), toNat_ofNat_shiftLeft (by omega), BitVec.toNat_ofNat, Nat.mod_eq_of_lt (by omega),
    mul_two_pow_or (a := rs3.val) (by omega), mul_two_pow_or (a := rs2.val) (by omega),
    mul_two_pow_or (a := rs1.val) (by omega), mul_two_pow_or (a := rd.val) (by omega), mul_two_pow_or (a := op.val) (by omega)]
  omega

end Sys2Proof

/-! ### The obligations -/

open Sys2Proof

/-- Settles O2: decoding reads the fields back, and the opcode map takes them to the command. -/
theorem decodeEncodeAgree : Obligations.DecodeEncodeAgree := by
  unfold Obligations.DecodeEncodeAgree
  intro i
  rw [decode_encode_eq, decodeFields_encodeFields]

/-- Settles O3: the decoder checks every field that the command it names does not carry. -/
theorem encodeDecodeAgree : Obligations.EncodeDecodeAgree := by
  unfold Obligations.EncodeDecodeAgree
  intro w i h
  rw [encode, encodeFields_of_decodeFields h, toWord_fieldsOf]

/-- Settles O1: a command's word is the or of the fields of its format, and a field that is 0 drops out of it. -/
theorem encodingsMatchSyntaxTable : Obligations.EncodingsMatchSyntaxTable := by
  unfold Obligations.EncodingsMatchSyntaxTable
  refine ⟨?_, ?_, ?_, ?_, ?_, ?_, ?_, ?_, ?_, by decide, by decide, by decide, by decide, ?_, ?_, by decide⟩
  -- the forms with operands
  all_goals
    intros
    simp only [encode, toWord_eq_or, encodeFields, Fin.val_zero, BitVec.zero_shiftLeft, BitVec.or_zero]
    rfl

end

section
/-! SUPPORT. The zig-zag order, the categories with their bits, and the runs of zeros (spec/44_bitstream.md R210-R215). -/

namespace Sys2Proof.Machine

/-! ### Categories and additional bits -/

theorem category_pos_iff (v : Int) : 0 < category v ↔ v ≠ 0 := by
  rw [← not_iff_not, not_lt, category_le_iff, pow_zero, Nat.lt_one_iff, Int.natAbs_eq_zero, not_not]

/-- A value of category `n` has its top bit at `n - 1`. -/
theorem two_pow_le_natAbs {v : Int} (hv : v ≠ 0) : 2 ^ (category v - 1) ≤ v.natAbs := by
  have hpos := (category_pos_iff v).2 hv
  exact not_lt.1 fun hlt => absurd ((category_le_iff v _).2 hlt) (by omega)

theorem natAbs_lt_two_pow (v : Int) : v.natAbs < 2 ^ category v := (category_le_iff v _).1 le_rfl

/-- The first bit of a call is the top bit of its value. -/
theorem toBools_head? {b : Bits} (hn : 0 < b.n) : b.toBools.head? = some (b.value.testBit (b.n - 1)) := by
  obtain ⟨value, n⟩ := b
  obtain ⟨k, rfl⟩ : ∃ k, n = k + 1 := ⟨n - 1, by simp at hn; omega⟩
  simp [Bits.toBools, List.range_succ]

/-- The additional bits of a positive value are the value (R213). -/
theorem additional_of_pos {v : Int} (hv : 0 < v) : (additional v (category v)).value = v.natAbs := by
  simp only [additional, if_pos hv]
  omega

/-- The additional bits of a negative value `v` of category `n` are `2^n - 1 - |v|` (R213). -/
theorem additional_of_neg {v : Int} (hv : v < 0) : (additional v (category v)).value + v.natAbs + 1 = 2 ^ category v := by
  have hlt := natAbs_lt_two_pow v
  have hcast : ((2 ^ category v : Nat) : Int) = 2 ^ category v := by push_cast; rfl
  simp only [additional, if_neg hv.not_gt, ← hcast]
  omega

theorem additional_value_lt {v : Int} (hv : v ≠ 0) : (additional v (category v)).value < 2 ^ category v := by
  obtain hneg | hpos := lt_or_gt_of_ne hv
  · have := additional_of_neg hneg
    omega
  · rw [additional_of_pos hpos]
    exact natAbs_lt_two_pow v

/-- The additional bits of a positive value start with 1. -/
theorem additional_head?_of_pos {v : Int} (hv : 0 < v) : (additional v (category v)).toBools.head? = some true := by
  have hpos := (category_pos_iff v).2 hv.ne'
  rw [toBools_head? hpos, additional_of_pos hv]
  refine congrArg some (Nat.testBit_of_two_pow_le_and_two_pow_add_one_gt (two_pow_le_natAbs hv.ne') ?_)
  rw [show (additional v (category v)).n - 1 + 1 = category v from Nat.sub_add_cancel hpos]
  exact natAbs_lt_two_pow v

/-- The additional bits of a negative value start with 0. -/
theorem additional_head?_of_neg {v : Int} (hv : v < 0) : (additional v (category v)).toBools.head? = some false := by
  have hpos := (category_pos_iff v).2 hv.ne
  have hval := additional_of_neg hv
  have htop := two_pow_le_natAbs hv.ne
  have hhalf : 2 ^ category v = 2 * 2 ^ (category v - 1) := by rw [← pow_succ', Nat.sub_add_cancel hpos]
  rw [toBools_head? hpos]
  refine congrArg some (Nat.testBit_lt_two_pow ?_)
  show (additional v (category v)).value < 2 ^ (category v - 1)
  omega

/-- The additional bits of a negative value are `(v - 1) mod 2^n`. -/
theorem additional_of_neg_eq_emod {v : Int} (hv : v < 0) :
    ((additional v (category v)).value : Int) = (v - 1) % 2 ^ category v := by
  have hval := additional_of_neg hv
  have hcast : ((2 ^ category v : Nat) : Int) = 2 ^ category v := by push_cast; rfl
  rw [← hcast, ← Int.add_emod_right, Int.emod_eq_of_lt (by omega) (by omega)]
  omega

/-! ### Runs of zeros -/

/-- Zeros only add to the pending run (R215). -/
theorem encodeRuns_replicate_zero (c : CodeClass) (run n : Nat) (rest : List Int) :
    encodeRuns c run (List.replicate n 0 ++ rest) = encodeRuns c (run + n) rest := by
  induction n generalizing run with
  | zero => rfl
  | succ n ih =>
      rw [List.replicate_succ, List.cons_append, encodeRuns, if_pos rfl, ih, Nat.add_assoc, Nat.add_comm 1 n]

/-! ### The length of a block's codes (R296) -/

/-- How many bits calls of `PutBits` send. -/
def bitLength (bs : List Bits) : Nat := (bs.flatMap Bits.toBools).length

@[simp] theorem bitLength_nil : bitLength [] = 0 := rfl

@[simp] theorem bitLength_cons (b : Bits) (bs : List Bits) : bitLength (b :: bs) = b.n + bitLength bs := by
  simp [bitLength, Bits.toBools]

@[simp] theorem bitLength_append (as bs : List Bits) : bitLength (as ++ bs) = bitLength as + bitLength bs := by
  simp [bitLength]

@[simp] theorem bitLength_replicate (n : Nat) (b : Bits) : bitLength (List.replicate n b) = n * b.n := by
  induction n with
  | zero => simp
  | succ n ih => rw [List.replicate_succ, bitLength_cons, ih]; ring

/-- The most bits a DC difference takes: the code and the additional bits of the largest category. -/
def CodeClass.dcMost : CodeClass → Nat
  | .luma => 20
  | .chroma => 22

/-- The most bits an AC coefficient takes, a pending zero counted as one. -/
def CodeClass.acMost : CodeClass → Nat
  | .luma => 26
  | .chroma => 22

theorem dc_code_length_le (c : CodeClass) (n : Fin 12) : (c.dc.code n.val).n + n.val ≤ c.dcMost := by
  revert n; cases c <;> decide +kernel

theorem ac_code_length_le (c : CodeClass) (run : Fin 16) (size : Fin 11) (h : size ≠ 0) :
    (c.ac.code (16 * run.val + size.val)).n + size.val ≤ c.acMost * (run.val + 1) := by
  revert run size; cases c <;> decide +kernel

/-- A ZRL stands for 16 zeros, and EOB for one or more. -/
theorem zero_code_length_le (c : CodeClass) : (c.ac.code 0xF0).n ≤ c.acMost * 16 ∧ (c.ac.code 0x00).n ≤ c.acMost := by
  cases c <;> decide +kernel

theorem bitLength_encodeDC_le (c : CodeClass) {diff : Int} (h : category diff ≤ 11) : bitLength (encodeDC diff c) ≤ c.dcMost := by
  have hcode := dc_code_length_le c ⟨category diff, by omega⟩
  have hbits : bitLength (if 0 < category diff then [additional diff (category diff)] else []) = category diff := by
    split
    · simp [additional]
    · simp; omega
  simpa [encodeDC, hbits] using hcode

/-- Each coefficient, pending zeros included, takes `acMost` bits at most. -/
theorem bitLength_encodeRuns_le (c : CodeClass) (run : Nat) {l : List Int} (h : ∀ v ∈ l, category v ≤ 10) :
    bitLength (encodeRuns c run l) ≤ c.acMost * (run + l.length) := by
  obtain ⟨hzrl, heob⟩ := zero_code_length_le c
  induction l generalizing run with
  | nil =>
      rw [encodeRuns, List.length_nil]
      split
      · next hrun => simpa using heob.trans (Nat.le_mul_of_pos_right _ hrun)
      · simp
  | cons v l ih =>
      rw [List.length_cons, encodeRuns]
      have htail := fun r => ih r fun w hw => h w (List.mem_cons_of_mem v hw)
      split
      · exact (htail (run + 1)).trans (by rw [Nat.add_assoc, Nat.add_comm 1])
      · next hv =>
          have hcat := h v List.mem_cons_self
          have hpos := (category_pos_iff v).2 hv
          have hcode := ac_code_length_le c ⟨run % 16, by omega⟩ ⟨category v, by omega⟩
            (fun e => by simp [Fin.ext_iff] at e; omega)
          have hzrls : run / 16 * (c.ac.code 0xF0).n ≤ run / 16 * (c.acMost * 16) := Nat.mul_le_mul_left _ hzrl
          have hrun : c.acMost * (run + (l.length + 1)) =
              run / 16 * (c.acMost * 16) + c.acMost * (run % 16 + 1) + c.acMost * (0 + l.length) := by
            conv_lhs => rw [← Nat.div_add_mod run 16]
            ring
          have hrest := htail 0
          simp only [bitLength_append, bitLength_replicate, bitLength_cons, additional]
          simp only at hcode
          omega

/-- The most bits a block of a class codes to (R296). -/
def CodeClass.most : CodeClass → Nat
  | .luma => lumaBits
  | .chroma => chromaBits

/-- A block that may be coded has 63 AC values. -/
theorem prepareBlock_ac_length {b : Block} {t : Table} {pred : S16} {p : Prepared} (h : prepareBlock b t pred = some p) :
    p.ac.length = 63 := by
  obtain ⟨rfl, -⟩ := prepareBlock_some h
  simp

theorem bitLength_codeBlock_le {b : Block} {t : Table} {pred : S16} {p : Prepared} (h : prepareBlock b t pred = some p)
    (c : CodeClass) : bitLength (codeBlock p c) ≤ c.most := by
  have hlen := prepareBlock_ac_length h
  obtain ⟨-, hdc, hac⟩ := prepareBlock_some h
  have hdc := bitLength_encodeDC_le c hdc
  have hac := bitLength_encodeRuns_le c 0 hac
  rw [codeBlock, bitLength_append, encodeAC]
  rw [hlen] at hac
  cases c
  · exact (Nat.add_le_add hdc hac).trans (by decide)
  · exact (Nat.add_le_add hdc hac).trans (by decide)

end Sys2Proof.Machine

/-! ### The obligations -/

open Sys2Proof Sys2Proof.Machine

/-- Settles O49, a fact about a constant of 64 entries. -/
theorem zigzagOrder : Obligations.ZigzagOrder := by
  unfold Obligations.ZigzagOrder
  decide +kernel

/-- Settles O50: the category is read off `category_le_iff`; the sign of the value decides its additional bits; zeros only add to
the pending run. -/
theorem categoryAndAdditionalBits : Obligations.CategoryAndAdditionalBits := by
  unfold Obligations.CategoryAndAdditionalBits
  intro v
  refine ⟨⟨natAbs_lt_two_pow v, fun n => (category_le_iff v n).2⟩, fun h => (category_le_iff v 11).2 (by omega),
    fun h => (category_le_iff v 10).2 (by omega), fun hv => ⟨rfl, additional_value_lt hv, fun hpos => ?_, fun hneg => ?_⟩,
    fun c => ?_, fun c run => ?_, fun c run rest hv => ?_, rfl, rfl, rfl, rfl⟩
  · rw [additional_of_pos hpos]
    exact ⟨Int.natAbs_of_nonneg hpos.le, additional_head?_of_pos hpos⟩
  · exact ⟨additional_of_neg_eq_emod hneg, additional_head?_of_neg hneg⟩
  · simp only [encodeDC, category_pos_iff, ite_not]
  · have hrun := encodeRuns_replicate_zero c 0 run []
    rw [List.append_nil, Nat.zero_add] at hrun
    rw [encodeAC, hrun, encodeRuns]
    simp only [Nat.pos_iff_ne_zero, ite_not]
  · rw [encodeAC, encodeRuns_replicate_zero, Nat.zero_add, encodeRuns, if_neg hv, encodeAC]

end

section
/-! SUPPORT. Bit packing (spec/44_bitstream.md R223-R225): the bytes the bit buffer emits are stuffed data bytes, and the data bytes with
the pending bits carry the bits put in. -/

namespace Sys2Proof.Machine

/-! ### Stuffing -/

theorem stuffed_ff : stuffed 0xFF = [0xFF, 0x00] := rfl

theorem stuffed_of_ne {b : Byte} (h : b ≠ 0xFF) : stuffed b = [b] := if_neg h

/-- A byte other than `0xFF` stands for itself. -/
theorem unstuffed_cons_of_ne {b : Byte} (h : b ≠ 0xFF) (l : List Byte) : unstuffed (b :: l) = b :: unstuffed l := by
  cases l with
  | nil => rfl
  | cons c l => rw [unstuffed, if_neg fun hc => h hc.1]

/-- Taking the stuffed zeros out brings the data back (R224). -/
theorem unstuffed_flatMap_stuffed (data : List Byte) : unstuffed (data.flatMap stuffed) = data := by
  induction data with
  | nil => rfl
  | cons b data ih =>
      rw [List.flatMap_cons]
      by_cases hb : b = 0xFF
      · rw [hb, stuffed_ff, List.cons_append, List.cons_append, List.nil_append, unstuffed, if_pos ⟨rfl, rfl⟩, ih]
      · rw [stuffed_of_ne hb, List.singleton_append, unstuffed_cons_of_ne hb, ih]

/-- In stuffed data every `0xFF` is followed by a zero byte (R224). -/
theorem zero_after_ff (data : List Byte) {n : Nat} (h : (data.flatMap stuffed)[n]? = some 0xFF) :
    (data.flatMap stuffed)[n + 1]? = some 0x00 := by
  induction data generalizing n with
  | nil => simp at h
  | cons b data ih =>
      rw [List.flatMap_cons] at h ⊢
      by_cases hb : b = 0xFF
      · rw [hb, stuffed_ff, List.cons_append, List.cons_append, List.nil_append] at h ⊢
        match n, h with
        | 0, _ => rfl
        | 1, h => exact absurd h (by simp)
        | n + 2, h => exact ih h
      · rw [stuffed_of_ne hb, List.singleton_append] at h ⊢
        match n, h with
        | 0, h => exact absurd (Option.some.inj h) hb
        | n + 1, h => exact ih h

theorem flatMap_stuffed_length_le (data : List Byte) : (data.flatMap stuffed).length ≤ 2 * data.length := by
  induction data with
  | nil => exact le_rfl
  | cons b data ih =>
      have := (stuffed_length_le b).2
      rw [List.flatMap_cons, List.length_append, List.length_cons]
      omega

/-! ### What the bit buffer carries -/

theorem pendingBits_length (acc : BitVec 7) (cnt : Fin 8) : (pendingBits acc cnt).length = cnt.val := by
  simp [pendingBits]

theorem flatMap_byteBits_length (data : List Byte) : (data.flatMap byteBits).length = 8 * data.length := by
  simp [byteBits, List.length_flatMap, Nat.mul_comm]

/-- The eighth bit completes a byte: the pending bits and that bit. -/
theorem byteBits_concat (acc : BitVec 7) (bit : Bool) : byteBits (acc.concat bit) = pendingBits acc 7 ++ [bit] := by
  simp [byteBits, pendingBits, List.range_succ, BitVec.getLsbD_concat]

/-- An earlier bit joins the pending bits. -/
theorem pendingBits_shiftConcat (acc : BitVec 7) {cnt : Fin 8} (h : cnt ≠ 7) (bit : Bool) :
    pendingBits (acc.shiftConcat bit) (cnt + 1) = pendingBits acc cnt ++ [bit] := by
  have hlt : cnt.val < 7 := Nat.lt_of_le_of_ne (Nat.le_of_lt_succ cnt.isLt) fun e => h (Fin.ext e)
  have hval : (cnt + 1).val = cnt.val + 1 := by rw [Fin.val_add]; simp; omega
  rw [pendingBits, hval, List.range_succ_eq_map, List.reverse_cons, List.map_append, ← List.map_reverse, List.map_map,
    pendingBits]
  congr 1
  · refine List.map_congr_left fun j hj => ?_
    have hj : j < cnt.val := by simpa using hj
    have hj7 : j + 1 < 7 := by omega
    simp [BitVec.getLsbD_shiftConcat, hj7]
  · simp [BitVec.getLsbD_shiftConcat]

/-- The buffer has emitted the stuffed bytes of `data`, and these with the pending bits carry `bits`. -/
def Packer.Carries (p : Packer) (data : List Byte) (bits : List Bool) : Prop :=
  p.out = data.flatMap stuffed ∧ data.flatMap byteBits ++ pendingBits p.acc p.cnt = bits

/-- One bit more in, one bit more carried (R223). -/
theorem Packer.Carries.putBit {p : Packer} {data : List Byte} {bits : List Bool} (h : p.Carries data bits) (bit : Bool) :
    ∃ data', (p.putBit bit).Carries data' (bits ++ [bit]) := by
  obtain ⟨hout, rfl⟩ := h
  rcases putBit_cases p bit with ⟨hc, h'⟩ | ⟨hc, h'⟩ <;> rw [h']
  · refine ⟨data ++ [p.acc.concat bit], ?_, ?_⟩
    · simp [hout]
    · rw [hc, List.append_assoc, ← byteBits_concat]
      simp [pendingBits]
  · refine ⟨data, hout, ?_⟩
    rw [pendingBits_shiftConcat _ hc, List.append_assoc]

/-- Calls of `PutBits` add their bits, in order (R223). -/
theorem Packer.Carries.putAll {p : Packer} {data : List Byte} {bits : List Bool} (h : p.Carries data bits) (bs : List Bits) :
    ∃ data', (p.putAll bs).Carries data' (bits ++ bs.flatMap Bits.toBools) := by
  rw [putAll_eq_foldl]
  generalize bs.flatMap Bits.toBools = l
  induction l generalizing p data bits with
  | nil => exact ⟨data, by simpa using h⟩
  | cons bit l ih =>
      obtain ⟨data', h'⟩ := h.putBit bit
      obtain ⟨data'', h''⟩ := ih h'
      exact ⟨data'', by simpa using h''⟩

/-- A buffer that has emitted nothing carries its pending bits. -/
theorem carries_of_empty (acc : BitVec 7) (cnt : Fin 8) :
    Packer.Carries { acc := acc, cnt := cnt, out := [] } [] (pendingBits acc cnt) :=
  ⟨rfl, rfl⟩

/-- A flush emits at most one stuffed byte (R225). -/
theorem flushBytes_eq (acc : BitVec 7) (cnt : Fin 8) :
    ∃ data : List Byte, data.length ≤ 1 ∧ flushBytes acc cnt = data.flatMap stuffed := by
  unfold flushBytes
  split
  · exact ⟨[], by simp, rfl⟩
  · exact ⟨[_], le_rfl, (List.flatMap_singleton stuffed _).symm⟩

/-- The bytes a command emits: two for every eight bits at most (R296). -/
theorem putAll_out_length_le (acc : BitVec 7) (cnt : Fin 8) (bs : List Bits) :
    (Packer.putAll { acc := acc, cnt := cnt, out := [] } bs).out.length ≤ 2 * ((7 + bitLength bs) / 8) := by
  obtain ⟨data, hout, hbits⟩ := (carries_of_empty acc cnt).putAll bs
  have hlen := congrArg List.length hbits
  have hdata := flatMap_stuffed_length_le data
  simp only [List.length_append, flatMap_byteBits_length, pendingBits_length] at hlen
  rw [hout, bitLength]
  omega

/-- What the buffer has already emitted does not matter to what it does next. -/
theorem putAll_out (acc : BitVec 7) (cnt : Fin 8) (out : List Byte) (bs : List Bits) :
    Packer.putAll { acc := acc, cnt := cnt, out := out } bs =
      let p := Packer.putAll { acc := acc, cnt := cnt, out := [] } bs
      { p with out := out ++ p.out } := by
  simp only [putAll_eq_foldl]
  generalize bs.flatMap Bits.toBools = l
  have hbit (acc cnt bit) (out more : List Byte) : Packer.putBit { acc := acc, cnt := cnt, out := out ++ more } bit =
      let p := Packer.putBit { acc := acc, cnt := cnt, out := more } bit
      { p with out := out ++ p.out } := by
    by_cases hc : cnt = 7 <;> simp [Packer.putBit, hc]
  have hall (p : Packer) : l.foldl Packer.putBit { p with out := out ++ p.out } =
      { l.foldl Packer.putBit p with out := out ++ (l.foldl Packer.putBit p).out } := by
    induction l generalizing p with
    | nil => rfl
    | cons bit l ih => rw [List.foldl_cons, List.foldl_cons, hbit, ih]
  simpa using hall { acc := acc, cnt := cnt, out := [] }

/-! ### The canonical codes (R216, R221) -/

/-- The codes of 16 bits that begin with the code `b`: from `b.low` up to, and without, `b.high`. -/
def Bits.low (b : Bits) : Nat := b.value * 2 ^ (16 - b.n)
def Bits.high (b : Bits) : Nat := (b.value + 1) * 2 ^ (16 - b.n)

/-- The number that bits make, most significant bit first. -/
def numberOf (l : List Bool) : Nat := l.foldl (fun n bit => 2 * n + bit.toNat) 0

theorem numberOf_append (as bs : List Bool) : numberOf (as ++ bs) = numberOf as * 2 ^ bs.length + numberOf bs := by
  have hfold (bs : List Bool) (n : Nat) :
      bs.foldl (fun n bit => 2 * n + bit.toNat) n = n * 2 ^ bs.length + numberOf bs := by
    unfold numberOf
    induction bs generalizing n with
    | nil => simp
    | cons b bs ih => rw [List.foldl_cons, ih, List.foldl_cons, ih (2 * 0 + b.toNat), List.length_cons]; ring
  rw [numberOf, List.foldl_append, hfold]
  rfl

theorem numberOf_lt (l : List Bool) : numberOf l < 2 ^ l.length := by
  induction l using List.reverseRecOn with
  | nil => decide
  | append_singleton l bit ih =>
      have hbit := Bool.toNat_le bit
      rw [numberOf_append, List.length_append, List.length_singleton, pow_succ]
      simp [numberOf] at ih ⊢
      omega

/-- The bits of a call make its value. -/
theorem numberOf_toBools (n value : Nat) : numberOf (Bits.toBools { value := value, n := n }) = value % 2 ^ n := by
  induction n generalizing value with
  | zero => simp [Bits.toBools, numberOf, Nat.mod_one]
  | succ n ih =>
      have hsplit : Bits.toBools { value := value, n := n + 1 } =
          Bits.toBools { value := value / 2, n := n } ++ [value.testBit 0] := by
        simp [Bits.toBools, List.range_succ_eq_map, Nat.testBit_succ]
      rw [hsplit, numberOf_append, ih, List.length_singleton, pow_one, pow_succ', Nat.mod_mul]
      simp only [numberOf, List.foldl_cons, List.foldl_nil, Nat.toNat_testBit, pow_zero, Nat.div_one]
      omega

/-- A code holds the ranges of the codes that begin with it. -/
theorem interval_of_beginsWith {a b : Bits} (ha : a.value < 2 ^ a.n) (hb : b.value < 2 ^ b.n) (hn : b.n ≤ 16)
    (h : a.toBools <+: b.toBools) : a.low ≤ b.low ∧ b.low < a.high := by
  obtain ⟨more, hmore⟩ := h
  have hnum := congrArg numberOf hmore
  have hlen := congrArg List.length hmore
  have hlt := numberOf_lt more
  obtain ⟨va, na⟩ := a
  obtain ⟨vb, nb⟩ := b
  dsimp only at ha hb hn
  rw [numberOf_append, numberOf_toBools, numberOf_toBools, Nat.mod_eq_of_lt ha, Nat.mod_eq_of_lt hb] at hnum
  simp only [Bits.toBools, List.length_append, List.length_map, List.length_reverse, List.length_range] at hlen
  have hpow : 2 ^ (16 - na) = 2 ^ more.length * 2 ^ (16 - nb) := by rw [← pow_add]; congr 1; omega
  simp only [Bits.low, Bits.high, hpow, ← hnum, ← mul_assoc]
  constructor
  · gcongr
    omega
  · gcongr
    rw [Nat.succ_mul]
    omega

/-- The range of `a` holds a code, and it ends where that of `b` begins, or before. -/
abbrev CodeBefore (a b : Nat × Bits) : Prop := a.2.low < a.2.high ∧ a.2.high ≤ b.2.low

/-- The codes of a table in the order of the table: each begins where the codes of 16 bits before it end. -/
def Increasing (l : List (Nat × Bits)) : Prop := l.Pairwise fun a b => a.2.high ≤ b.2.low

/-- Where the ranges follow one another, no code begins with another. -/
theorem not_beginsWith_of_increasing {l : List (Nat × Bits)} (hl : Increasing l)
    (hlegal : ∀ a ∈ l, a.2.value < 2 ^ a.2.n ∧ a.2.n ≤ 16) {a b : Nat × Bits} (ha : a ∈ l) (hb : b ∈ l) (hne : a.1 ≠ b.1) :
    ¬ a.2.toBools <+: b.2.toBools := by
  intro hprefix
  obtain ⟨hav, -⟩ := hlegal a ha
  obtain ⟨hbv, hbn⟩ := hlegal b hb
  obtain ⟨hlow, hhigh⟩ := interval_of_beginsWith hav hbv hbn hprefix
  have hbpos : b.2.low < b.2.high := by
    unfold Bits.low Bits.high
    gcongr
    omega
  have hpair := List.pairwise_iff_getElem.1 hl
  obtain ⟨i, hi, rfl⟩ := List.getElem_of_mem ha
  obtain ⟨j, hj, rfl⟩ := List.getElem_of_mem hb
  obtain hij | rfl | hji := lt_trichotomy i j
  · have := hpair i j hi hj hij
    omega
  · exact hne rfl
  · have := hpair j i hj hi hji
    omega

theorem increasing_codes : ∀ t ∈ [dcL, acL, dcC, acC], Increasing t.codes := by
  have htrans : Trans CodeBefore CodeBefore CodeBefore := 
    ⟨fun ⟨ha, hab⟩ ⟨hb, hbc⟩ => ⟨ha, hab.trans (hb.le.trans hbc)⟩⟩
  have hchain : ∀ t ∈ [dcL, acL, dcC, acC], t.codes.IsChain CodeBefore := by decide +kernel
  exact fun t ht => (List.isChain_iff_pairwise.1 (hchain t ht)).imp And.right

/-- No code is empty, longer than 16 bits or all 1-bits, and looking a symbol up gives its code. -/
theorem codes_legal : ∀ t ∈ [dcL, acL, dcC, acC], ∀ a ∈ t.codes,
    1 ≤ a.2.n ∧ a.2.n ≤ 16 ∧ a.2.value < 2 ^ a.2.n - 1 ∧ t.code a.1 = a.2 := by
  decide +kernel

theorem exists_mem_iff_mem_map_fst (l : List (Nat × Bits)) (sym : Nat) : (∃ c, (sym, c) ∈ l) ↔ sym ∈ l.map Prod.fst := by
  simp

/-- The symbols of the AC tables: EOB, ZRL, and a run of 0 to 15 with a size of 1 to 10. -/
theorem mem_ac_symbols : ∀ t ∈ [acL, acC], ∀ sym, sym ∈ t.codes.map Prod.fst ↔
    sym = 0x00 ∨ sym = 0xF0 ∨ ∃ r s, r ≤ 15 ∧ 1 ≤ s ∧ s ≤ 10 ∧ sym = 16 * r + s := by
  have honly : ∀ t ∈ [acL, acC], ∀ sym ∈ t.codes.map Prod.fst,
      sym = 0x00 ∨ sym = 0xF0 ∨ sym / 16 ≤ 15 ∧ 1 ≤ sym % 16 ∧ sym % 16 ≤ 10 := by decide +kernel
  have hall : ∀ t ∈ [acL, acC], 0x00 ∈ t.codes.map Prod.fst ∧ 0xF0 ∈ t.codes.map Prod.fst ∧
      ∀ (r : Fin 16) (s : Fin 11), s ≠ 0 → 16 * r.val + s.val ∈ t.codes.map Prod.fst := by decide +kernel
  intro t ht sym
  constructor
  · intro hsym
    refine (honly t ht sym hsym).imp_right (Or.imp_right fun hrs => ⟨sym / 16, sym % 16, ?_⟩)
    omega
  · obtain ⟨heob, hzrl, hrs⟩ := hall t ht
    rintro (rfl | rfl | ⟨r, s, hr, hs, hs', rfl⟩)
    · exact heob
    · exact hzrl
    · exact hrs ⟨r, by omega⟩ ⟨s, by omega⟩ fun e => by simp [Fin.ext_iff] at e; omega

theorem mem_dc_symbols : ∀ t ∈ [dcL, dcC], ∀ sym, sym ∈ t.codes.map Prod.fst ↔ sym ≤ 11 := by
  have hsyms : ∀ t ∈ [dcL, dcC], t.codes.map Prod.fst = List.range 12 := by decide +kernel
  intro t ht sym
  rw [hsyms t ht, List.mem_range]
  omega

end Sys2Proof.Machine

/-! ### The obligations -/

open Sys2Proof Sys2Proof.Machine

/-- Settles O51: the ranges of 16-bit codes that begin with each code follow one another, so none begins another; the
rest are facts about the four tables. -/
theorem codeTablesComplete : Obligations.CodeTablesComplete := by
  unfold Obligations.CodeTablesComplete
  refine ⟨fun t ht => ⟨?_, fun sym => ?_⟩, fun t ht => ⟨?_, fun sym => ?_⟩,
    fun t ht => ⟨fun a ha b hb hne => ?_, codes_legal t ht⟩,
    by decide +kernel, by decide +kernel, by decide +kernel⟩
  · revert t; decide +kernel
  · rw [exists_mem_iff_mem_map_fst, mem_ac_symbols t ht]
  · revert t; decide +kernel
  · rw [exists_mem_iff_mem_map_fst, mem_dc_symbols t ht]
  · refine not_beginsWith_of_increasing (increasing_codes t ht) (fun c hc => ?_) ha hb hne
    obtain ⟨-, hn, hv, -⟩ := codes_legal t ht c hc
    exact ⟨by omega, hn⟩

/-- Settles O52: the emitted bytes are the stuffed bytes of the data, the pad byte included. -/
theorem packedBitsAreFaithful : Obligations.PackedBitsAreFaithful := by
  unfold Obligations.PackedBitsAreFaithful
  constructor
  · intro acc cnt bs p
    obtain ⟨data, hout, hbits⟩ := (carries_of_empty acc cnt).putAll bs
    rw [show p = Packer.putAll { acc := acc, cnt := cnt, out := [] } bs from rfl, hout, unstuffed_flatMap_stuffed, hbits]
  · intro acc cnt bs p out n hn hff
    obtain ⟨data, hout, -⟩ := (carries_of_empty acc cnt).putAll bs
    obtain ⟨pad, -, hpad⟩ := flushBytes_eq p.acc p.cnt
    have hall : out = (data ++ pad).flatMap stuffed := by
      rw [List.flatMap_append, ← hpad]
      exact congrArg (· ++ flushBytes p.acc p.cnt) hout
    rw [← Option.some.injEq, ← List.getElem?_eq_getElem hn] at hff
    rw [hall] at hff ⊢
    exact zero_after_ff _ hff

end

section
/-! SUPPORT. The segments of the header, byte by byte, and its length (spec/44_bitstream.md R230-R236). -/

namespace Sys2Proof.Machine

/-- The factors in zig-zag order (R231). -/
theorem zigzagFactors_eq (t : Table) : zigzagFactors t = (List.finRange 64).map fun k => t[zz[k]] := by
  have hzz : zz.toList = (List.finRange 64).map fun k => zz[k] := by decide +kernel
  rw [zigzagFactors, hzz, List.map_map]
  rfl

@[simp] theorem zigzagFactors_length (t : Table) : (zigzagFactors t).length = 64 := by
  rw [zigzagFactors_eq, List.length_map, List.length_finRange]

/-- The low byte of a 16-bit field (R66). -/
theorem be16_eq (n : Nat) : be16 n = [BitVec.ofNat 8 (n / 256), BitVec.ofNat 8 (n % 256)] := by
  have hlow : BitVec.ofNat 8 n = BitVec.ofNat 8 (n % 256) := by
    apply BitVec.eq_of_toNat_eq
    simp
  rw [be16, hlow]

/-- The bytes of the Huffman tables: 28 of a DC table and 178 of an AC table (R233). -/
theorem huffTable_length : (dcL.bits ++ dcL.vals).length = 28 ∧ (acL.bits ++ acL.vals).length = 178 ∧
    (dcC.bits ++ dcC.vals).length = 28 ∧ (acC.bits ++ acC.vals).length = 178 := by
  decide +kernel

/-- The segments of a Gray header around its tables. -/
theorem headerBytes_gray (w h : Nat) (sqt : Vector Table 2) :
    headerBytes .gray w h sqt =
      ([0xFF, 0xD8, 0xFF, 0xDB, 0x00, 0x43, 0x00] : List Byte) ++ zigzagFactors sqt[0] ++
      ([(0xFF : Byte), 0xC0, 0x00, 0x0B, 0x08] ++ be16 h ++ be16 w ++ [0x01, 0x01, 0x11, 0x00]) ++
      [(0xFF : Byte), 0xC4, 0x00, 0xD2, 0x00] ++ (dcL.bits ++ dcL.vals).map (BitVec.ofNat 8) ++
      [(0x10 : Byte)] ++ (acL.bits ++ acL.vals).map (BitVec.ofNat 8) ++
      [(0xFF : Byte), 0xDA, 0x00, 0x08, 0x01, 0x01, 0x00, 0x00, 0x3F, 0x00] := by
  simp [headerBytes, marker, dqtSegment, sof0Segment, dhtSegment, sosSegment, dhtTable, frameComponents, scanComponents,
    ColorMode.components, be16]

/-- The segments of a YCbCr444 header around its tables. -/
theorem headerBytes_ycc444 (w h : Nat) (sqt : Vector Table 2) :
    headerBytes .ycc444 w h sqt =
      ([0xFF, 0xD8, 0xFF, 0xDB, 0x00, 0x84, 0x00] : List Byte) ++ zigzagFactors sqt[0] ++ [(0x01 : Byte)] ++ zigzagFactors sqt[1] ++
      ([(0xFF : Byte), 0xC0, 0x00, 0x11, 0x08] ++ be16 h ++ be16 w ++
        [0x03, 0x01, 0x11, 0x00, 0x02, 0x11, 0x01, 0x03, 0x11, 0x01]) ++
      [(0xFF : Byte), 0xC4, 0x01, 0xA2, 0x00] ++ (dcL.bits ++ dcL.vals).map (BitVec.ofNat 8) ++
      [(0x10 : Byte)] ++ (acL.bits ++ acL.vals).map (BitVec.ofNat 8) ++ [(0x01 : Byte)] ++ (dcC.bits ++ dcC.vals).map (BitVec.ofNat 8) ++
      [(0x11 : Byte)] ++ (acC.bits ++ acC.vals).map (BitVec.ofNat 8) ++
      [(0xFF : Byte), 0xDA, 0x00, 0x0C, 0x03, 0x01, 0x00, 0x02, 0x11, 0x03, 0x11, 0x00, 0x3F, 0x00] := by
  simp [headerBytes, marker, dqtSegment, sof0Segment, dhtSegment, sosSegment, dhtTable, frameComponents, scanComponents,
    ColorMode.components, be16]

/-- The number of bytes of a header (R236). -/
def headerLength : ColorMode → Nat
  | .gray => 306
  | .ycc444 => 589

theorem headerBytes_length (m : ColorMode) (w h : Nat) (sqt : Vector Table 2) : (headerBytes m w h sqt).length = headerLength m := by
  obtain ⟨hdcL, hacL, hdcC, hacC⟩ := huffTable_length
  cases m with
  | gray =>
      rw [headerBytes_gray]
      simp only [List.length_append, List.length_map, zigzagFactors_length, be16, List.length_cons, List.length_nil] at hdcL hacL ⊢
      simp only [headerLength]
      omega
  | ycc444 =>
      rw [headerBytes_ycc444]
      simp only [List.length_append, List.length_map, zigzagFactors_length, be16, List.length_cons, List.length_nil]
        at hdcL hacL hdcC hacC ⊢
      simp only [headerLength]
      omega

end Sys2Proof.Machine

/-! ### The obligation -/

open Sys2Proof Sys2Proof.Machine

/-- Settles O42: the segments of each mode, and their lengths added up. -/
theorem headerLayout : Obligations.HeaderLayout := by
  unfold Obligations.HeaderLayout
  intro w h sqt _ _
  refine ⟨?_, ?_, headerBytes_length .gray w h sqt, headerBytes_length .ycc444 w h sqt⟩
  · rw [headerBytes_gray, zigzagFactors_eq, be16_eq, be16_eq]
    rfl
  · rw [headerBytes_ycc444, zigzagFactors_eq, zigzagFactors_eq, be16_eq, be16_eq]
    rfl

end

section
/-! SUPPORT. How commands end (spec/60_exceptions.md R251-R260), what no command changes, and how many bytes one offers
(spec/70_reset_and_hazards.md R296). -/

namespace Sys2Proof.Machine

/-! ### The ways an encoder command ends -/

/-- The block commands, each with the most bits its codes take (R296). -/
inductive BlockCommand : Instr → Nat → Prop
  | one (a : OpField) : BlockCommand (.encblk1 a) lumaBits
  | three (a b c : OpField) : BlockCommand (.encblk3 a b c) (lumaBits + 2 * chromaBits)

/-- How an encoder command ends: with an error of its own, before it has emitted anything; or by offering its bytes; or, for
`ENCFIN` outside `READY`, at once. -/
inductive EncoderResult (s : State) : Instr → State → Prop
  | rejected (expl : Bool) (mode : Fin 4) :
      EncoderResult s (.encrst expl mode) (({ s with incomplete := false } : State).failEncoder .configuration)
  | opened (expl : Bool) (mode : Fin 4) (m : ColorMode) (hm : colorMode mode = some m)
      (hw : dimensionOk s.sampledWidth = true) (hh : dimensionOk s.sampledHeight = true)
      (hq : expl = true → explicitTablesOk m s.qt = true) :
      EncoderResult s (.encrst expl mode) ((({ s with incomplete := false } : State).initSession m expl).offer .openSession
        (({ s with incomplete := false } : State).initSession m expl).sessionHeader)
  | refused {i : Instr} {most : Nat} (hi : BlockCommand i most) (k : Nat) {code : ErrorCode}
      (hcode : code = .sequencing ∨ code = .configuration ∨ code = .dataRange) :
      EncoderResult s i ((s.drawn k).failEncoder code)
  | coded {i : Instr} {most : Nat} (hi : BlockCommand i most) (k : Nat) (codes : List Bits) (p0 p1 p2 : S16)
      (hready : s.encState = .ready) (hcount : s.mcuCount.toNat < s.mcuTotal.toNat) (hbits : bitLength codes ≤ most) :
      EncoderResult s i ((s.drawn k).emitBlocks codes p0 p1 p2)
  | flushed (hready : s.encState = .ready) :
      EncoderResult s .encfin (({ s with
        incomplete := decide (s.mcuCount.toNat < s.mcuTotal.toNat), bitacc := 0, bitcnt := 0 } : State).offer .closeSession
        (flushBytes s.bitacc s.bitcnt ++ eoi))
  | closed (hready : s.encState ≠ .ready) :
      EncoderResult s .encfin (({ s with encState := .closed } : State).complete .none)

/-- Free code bits are as many as the block command allows, or fewer. -/
theorem bitLength_freeCodes_le (bits : List Bool) (most : Nat) :
    bitLength ((bits.take most).map fun b => { value := b.toNat, n := 1 }) ≤ most := by
  have hones (l : List Bool) : bitLength (l.map fun b => { value := b.toNat, n := 1 }) = l.length := by
    induction l with
    | nil => rfl
    | cons b l ih => rw [List.map_cons, bitLength_cons, ih, List.length_cons, Nat.add_comm]
  rw [hones]
  exact List.length_take_le _ _

/-- Every encoder command ends in one of these ways. -/
theorem exec_encoder {i : Instr} (h : IsEncoder i = true) (s : State) : ∃ t, exec i s = .next t ∧ EncoderResult s i t := by
  cases i with
  | encrst expl mode =>
      rcases exec_encrst_cases expl mode s with h | ⟨m, hm, hw, hh, hq, h⟩
      · exact ⟨_, h, .rejected expl mode⟩
      · exact ⟨_, h, .opened expl mode m hm hw hh hq⟩
  | encblk1 a =>
      rcases exec_encblk1_cases a s with ⟨code, hcode, k, h⟩ | ⟨hr, -, hlt, ⟨-, h⟩ | ⟨-, p, hp, h⟩⟩
      · exact ⟨_, h, .refused (.one a) k hcode⟩
      · exact ⟨_, h, .coded (.one a) 5 _ _ _ _ hr hlt (bitLength_freeCodes_le _ _)⟩
      · exact ⟨_, h, .coded (.one a) 0 _ _ _ _ hr hlt (bitLength_codeBlock_le hp .luma)⟩
  | encblk3 a b c =>
      rcases exec_encblk3_cases a b c s with
        ⟨code, hcode, k, h⟩ | ⟨hr, -, hlt, ⟨-, h⟩ | ⟨-, pY, pB, pR, hY, hB, hR, h⟩⟩
      · exact ⟨_, h, .refused (.three a b c) k hcode⟩
      · exact ⟨_, h, .coded (.three a b c) 5 _ _ _ _ hr hlt (bitLength_freeCodes_le _ _)⟩
      · refine ⟨_, h, .coded (.three a b c) 0 _ _ _ _ hr hlt ?_⟩
        have hY := bitLength_codeBlock_le hY .luma
        have hB := bitLength_codeBlock_le hB .chroma
        have hR := bitLength_codeBlock_le hR .chroma
        simp only [bitLength_append, CodeClass.most] at *
        omega
  | encfin =>
      rcases exec_encfin_cases s with ⟨hr, h⟩ | ⟨hr, h⟩
      · exact ⟨_, h, .flushed hr⟩
      · exact ⟨_, h, .closed hr⟩
  | _ => cases h

/-! ### What no command and no move of the engine changes -/

/-- What the engine never changes: the host's registers, the flags only the host sets, the samples, the bus's answer, and the
turns. -/
structure EngineFrame (s t : State) : Prop where
  ctrlIE : t.ctrlIE = s.ctrlIE
  cmdOverrun : t.cmdOverrun = s.cmdOverrun
  accConflict : t.accConflict = s.accConflict
  cmd : t.cmd = s.cmd
  width : t.width = s.width
  height : t.height = s.height
  sampledWidth : t.sampledWidth = s.sampledWidth
  sampledHeight : t.sampledHeight = s.sampledHeight
  busReply : t.busReply = s.busReply
  turns : t.turns = s.turns

namespace State

/-! One lemma per field that `offer` never changes. -/

section
variable (s : State) (fin : Finish) (bytes : List Byte)

@[simp] theorem offer_ctrlIE : (s.offer fin bytes).ctrlIE = s.ctrlIE := by rw [offer_frame]
@[simp] theorem offer_cmdOverrun : (s.offer fin bytes).cmdOverrun = s.cmdOverrun := by rw [offer_frame]
@[simp] theorem offer_accConflict : (s.offer fin bytes).accConflict = s.accConflict := by rw [offer_frame]
@[simp] theorem offer_incomplete : (s.offer fin bytes).incomplete = s.incomplete := by rw [offer_frame]
@[simp] theorem offer_encMode : (s.offer fin bytes).encMode = s.encMode := by rw [offer_frame]
@[simp] theorem offer_cmd : (s.offer fin bytes).cmd = s.cmd := by rw [offer_frame]
@[simp] theorem offer_width : (s.offer fin bytes).width = s.width := by rw [offer_frame]
@[simp] theorem offer_height : (s.offer fin bytes).height = s.height := by rw [offer_frame]
@[simp] theorem offer_mcuTotal : (s.offer fin bytes).mcuTotal = s.mcuTotal := by rw [offer_frame]
@[simp] theorem offer_slots : (s.offer fin bytes).slots = s.slots := by rw [offer_frame]
@[simp] theorem offer_written : (s.offer fin bytes).written = s.written := by rw [offer_frame]
@[simp] theorem offer_qt : (s.offer fin bytes).qt = s.qt := by rw [offer_frame]
@[simp] theorem offer_sqt : (s.offer fin bytes).sqt = s.sqt := by rw [offer_frame]
@[simp] theorem offer_sampledWidth : (s.offer fin bytes).sampledWidth = s.sampledWidth := by rw [offer_frame]
@[simp] theorem offer_sampledHeight : (s.offer fin bytes).sampledHeight = s.sampledHeight := by rw [offer_frame]
@[simp] theorem offer_busReply : (s.offer fin bytes).busReply = s.busReply := by rw [offer_frame]
@[simp] theorem offer_turns : (s.offer fin bytes).turns = s.turns := by rw [offer_frame]

end

end State

theorem engineFrame_complete (s : State) (code : ErrorCode) : EngineFrame s (s.complete code) :=
  ⟨rfl, rfl, rfl, rfl, rfl, rfl, rfl, rfl, rfl, rfl⟩

theorem engineFrame_offer (s : State) (fin : Finish) (bytes : List Byte) : EngineFrame s (s.offer fin bytes) := by
  constructor <;> simp

/-- An encoder command leaves these alone, and the two RAMs. -/
structure EncoderFrame (s t : State) : Prop extends EngineFrame s t where
  slots : t.slots = s.slots
  written : t.written = s.written
  qt : t.qt = s.qt

theorem EncoderResult.frame {i : Instr} {s t : State} (h : EncoderResult s i t) : EncoderFrame s t := by
  cases h with
  | rejected | refused | closed => exact ⟨⟨rfl, rfl, rfl, rfl, rfl, rfl, rfl, rfl, rfl, rfl⟩, rfl, rfl, rfl⟩
  | opened | coded | flushed => refine ⟨⟨?_, ?_, ?_, ?_, ?_, ?_, ?_, ?_, ?_, ?_⟩, ?_, ?_, ?_⟩ <;> simp [State.emitBlocks]

theorem BufferResult.frame {s t : State} (h : BufferResult s t) : EngineFrame s t := by
  obtain ⟨_, _, _, _, _, rfl, -⟩ := h
  exact ⟨rfl, rfl, rfl, rfl, rfl, rfl, rfl, rfl, rfl, rfl⟩

theorem exec_frame {i : Instr} {s t : State} (he : exec i s = .next t) : EngineFrame s t := by
  cases hb : IsEncoder i with
  | false =>
      obtain ⟨u, hu, hr⟩ := exec_buffer i s hb
      cases hu.symm.trans he
      exact hr.frame
  | true =>
      obtain ⟨u, hu, hr⟩ := exec_encoder hb s
      cases hu.symm.trans he
      exact hr.frame.toEngineFrame

/-! ### How a command completes -/

/-- The command has completed, with the status R260 gives. -/
def Completed (s t : State) : Prop := t.engine = .idle ∧ t.done = true ∧ t.err = (s.err || t.errcode != .none)

/-- The engine holds a byte, and the status is as before (R294). -/
def Holding (s t : State) : Prop :=
  (∃ b rest fin, t.engine = .offering b rest fin) ∧ t.done = s.done ∧ t.err = s.err ∧ t.errcode = s.errcode

theorem completed_or_holding_offer {s u : State} (hdone : u.done = s.done) (herr : u.err = s.err) (hcode : u.errcode = s.errcode)
    (fin : Finish) (bytes : List Byte) : Completed s (u.offer fin bytes) ∨ Holding s (u.offer fin bytes) := by
  rcases u.offer_status fin bytes with ⟨hidle, hd, ⟨hc, he, -⟩ | ⟨hc, he, -⟩⟩ | ⟨⟨b, rest, hoff⟩, hd, he, hc, -⟩
  · exact .inl ⟨hidle, hd, by rw [he, hc, herr, bne_self_eq_false, Bool.or_false]⟩
  · exact .inl ⟨hidle, hd, by rw [he, hc, show (ErrorCode.io != .none) = true from rfl, Bool.or_true]⟩
  · exact .inr ⟨⟨b, rest, fin, hoff⟩, hd.trans hdone, he.trans herr, hc.trans hcode⟩

theorem EncoderResult.completed_or_holding {i : Instr} {s t : State} (h : EncoderResult s i t) :
    Completed s t ∨ Holding s t := by
  cases h with
  | rejected | refused | closed => exact .inl ⟨rfl, rfl, rfl⟩
  | opened | coded | flushed => exact completed_or_holding_offer rfl rfl rfl _ _

theorem BufferResult.completed {s t : State} (h : BufferResult s t) : Completed s t := by
  obtain ⟨_, _, _, _, _, rfl, -⟩ := h
  exact ⟨rfl, rfl, rfl⟩

/-- A command completes, or the engine holds a byte of it. -/
theorem exec_completed_or_holding {i : Instr} {s t : State} (he : exec i s = .next t) : Completed s t ∨ Holding s t := by
  cases hb : IsEncoder i with
  | false =>
      obtain ⟨u, hu, hr⟩ := exec_buffer i s hb
      cases hu.symm.trans he
      exact .inl hr.completed
  | true =>
      obtain ⟨u, hu, hr⟩ := exec_encoder hb s
      cases hu.symm.trans he
      exact hr.completed_or_holding

theorem Holding.not_idle {s t : State} (h : Holding s t) : t.engine ≠ .idle := by
  obtain ⟨⟨b, rest, fin, hoff⟩, -⟩ := h
  rw [hoff]
  exact Engine.noConfusion

/-! ### The codes a command can complete with (R251) -/

theorem errcode_mem_complete {s : State} {code : ErrorCode} {l : List ErrorCode} (h : code ∈ l) : (s.complete code).errcode ∈ l := h

theorem errcode_mem_ite {a b : State} {l : List ErrorCode} (c : Bool) (ha : a.errcode ∈ l) (hb : b.errcode ∈ l) :
    (if c then a else b).errcode ∈ l := by
  split
  · exact ha
  · exact hb

theorem errcode_mem_freeChoice {s : State} {a b : State → State} {l : List ErrorCode} (ha : (a (s.drawn 1)).errcode ∈ l)
    (hb : (b (s.drawn 1)).errcode ∈ l) : (s.freeChoice a b).errcode ∈ l := by
  rcases s.freeChoice_cases a b with h | h <;> rw [h]
  · exact ha
  · exact hb

/-- The codes R251 lists for a command. -/
def listedCodes : Instr → List ErrorCode
  | .fdct _ _ => [.none, .badOperand, .dataRange]
  | .idct _ _ => [.none, .badOperand]
  | .qbuild _ _ _ _ => [.none, .badOperand, .configuration]
  | .qbuildp _ => [.none, .configuration]
  | .quant _ _ _ => [.none, .badOperand, .configuration]
  | .downs _ _ => [.none, .badOperand, .dataRange]
  | .ups _ _ => [.none, .badOperand, .dataRange]
  | .encrst _ _ => [.none, .configuration, .io]
  | .encblk1 _ => [.none, .sequencing, .configuration, .dataRange, .io]
  | .encblk3 _ _ _ => [.none, .sequencing, .configuration, .dataRange, .io]
  | .encfin => [.none, .io]

/-- A command outside the encoder completes with a code listed for it. -/
theorem exec_buffer_errcode_mem {i : Instr} (hb : IsEncoder i = false) (s : State) :
    ∃ t, exec i s = .next t ∧ t.errcode ∈ listedCodes i := by
  have listed {u : State} {code : ErrorCode} (h : code ∈ listedCodes i) : (u.complete code).errcode ∈ listedCodes i := h
  cases i with
  | fdct _ _ | downs _ _ | ups _ _ =>
      have ok {u : State} := listed (u := u) (code := .none) (by simp [listedCodes])
      have bad {u : State} := listed (u := u) (code := .badOperand) (by simp [listedCodes])
      have range {u : State} := listed (u := u) (code := .dataRange) (by simp [listedCodes])
      exact ⟨_, rfl, errcode_mem_ite _ bad (errcode_mem_ite _ (errcode_mem_freeChoice range ok) (errcode_mem_ite _ range ok))⟩
  | idct _ _ =>
      have ok {u : State} := listed (u := u) (code := .none) (by simp [listedCodes])
      exact ⟨_, rfl, errcode_mem_ite _ (listed (by simp [listedCodes])) (errcode_mem_ite _ ok ok)⟩
  | qbuild _ _ _ _ =>
      have ok {u : State} := listed (u := u) (code := .none) (by simp [listedCodes])
      have config {u : State} := listed (u := u) (code := .configuration) (by simp [listedCodes])
      exact ⟨_, rfl, errcode_mem_ite _ (listed (by simp [listedCodes])) (errcode_mem_ite _ config
        (errcode_mem_ite _ (errcode_mem_freeChoice config ok) (errcode_mem_ite _ config ok)))⟩
  | qbuildp _ => exact ⟨_, rfl, errcode_mem_ite _ (listed (by simp [listedCodes])) (listed (by simp [listedCodes]))⟩
  | quant _ _ _ =>
      have ok {u : State} := listed (u := u) (code := .none) (by simp [listedCodes])
      exact ⟨_, rfl, errcode_mem_ite _ (listed (by simp [listedCodes]))
        (errcode_mem_ite _ (listed (by simp [listedCodes])) (errcode_mem_ite _ ok ok))⟩
  | encrst _ _ | encblk1 _ | encblk3 _ _ _ | encfin => cases hb

/-- A command that has offered its bytes and is not held has succeeded or failed with `IO`. -/
theorem offer_errcode {s : State} {fin : Finish} {bytes : List Byte} (h : (s.offer fin bytes).engine = .idle) :
    ((s.offer fin bytes).errcode = .none ∧ (s.offer fin bytes).encState = (s.finish fin).encState) ∨
    ((s.offer fin bytes).errcode = .io ∧ (s.offer fin bytes).encState = .error) := by
  rcases s.offer_status fin bytes with ⟨-, -, ⟨hc, -, hs⟩ | ⟨hc, -, hs⟩⟩ | ⟨⟨b, rest, hoff⟩, -⟩
  · exact .inl ⟨hc, hs⟩
  · exact .inr ⟨hc, hs⟩
  · exact Engine.noConfusion (h.symm.trans hoff)

/-- While a byte is held `ENC_STATE` is as before. -/
theorem offer_encState_of_held {s : State} {fin : Finish} {bytes : List Byte} (h : (s.offer fin bytes).engine ≠ .idle) :
    (s.offer fin bytes).encState = s.encState := by
  rcases s.offer_status fin bytes with ⟨hidle, -⟩ | ⟨-, -, -, -, hs⟩
  · exact absurd hidle h
  · exact hs

/-- An encoder command completes with a code listed for it. -/
theorem EncoderResult.errcode_mem {i : Instr} {s t : State} (h : EncoderResult s i t) (hi : t.engine = .idle) :
    t.errcode ∈ listedCodes i := by
  cases h with
  | rejected => exact errcode_mem_complete (by simp [listedCodes])
  | refused hblk _ hcode =>
      refine errcode_mem_complete ?_
      cases hblk <;> rcases hcode with rfl | rfl | rfl <;> simp [listedCodes]
  | closed => exact errcode_mem_complete (by simp [listedCodes])
  | opened | flushed =>
      obtain ⟨hc, -⟩ | ⟨hc, -⟩ := offer_errcode hi <;> rw [hc] <;> simp [listedCodes]
  | coded hblk =>
      obtain ⟨hc, -⟩ | ⟨hc, -⟩ := offer_errcode hi <;> rw [State.emitBlocks, hc] <;> cases hblk <;> simp [listedCodes]

theorem exec_errcode_mem {i : Instr} {s t : State} (he : exec i s = .next t) (hi : t.engine = .idle) :
    t.errcode ∈ listedCodes i := by
  cases hb : IsEncoder i with
  | false =>
      obtain ⟨u, hu, hcode⟩ := exec_buffer_errcode_mem hb s
      cases hu.symm.trans he
      exact hcode
  | true =>
      obtain ⟨u, hu, hr⟩ := exec_encoder hb s
      cases hu.symm.trans he
      exact hr.errcode_mem hi

/-! ### Errors write nothing (R253) -/

theorem BlockCommand.ne_encrst {i : Instr} {most : Nat} (h : BlockCommand i most) : ¬ ∃ expl mode, i = .encrst expl mode := by
  rintro ⟨_, _, rfl⟩
  cases h

theorem BlockCommand.ne_encfin {i : Instr} {most : Nat} (h : BlockCommand i most) : i ≠ .encfin := by
  rintro rfl
  cases h

/-- The errors the encoder raises itself end the command and the session, and write nothing else. -/
theorem failEncoder_eq (s : State) {code : ErrorCode} (h : code ≠ .none) :
    s.failEncoder code = { s with encState := .error, errcode := code, err := true, done := true, engine := .idle } := by
  rw [State.failEncoder, complete_of_error _ h]

/-! ### The bytes a command offers (R296) -/

/-- The bytes the engine holds. -/
def heldBytes : Engine → Nat
  | .offering _ rest _ => 1 + rest.length
  | _ => 0

/-- What is accepted and what is held is what was offered, or less. -/
theorem offer_sinkHolds_length_le (s : State) (fin : Finish) (bytes : List Byte) :
    (s.offer fin bytes).sinkHolds.length + heldBytes (s.offer fin bytes).engine ≤ s.sinkHolds.length + bytes.length := by
  rcases s.offer_cases fin bytes with h | ⟨sent, b, rest, rfl, ⟨-, h⟩ | ⟨-, h⟩⟩ <;> rw [h]
  · simp [heldBytes]
  · simp [heldBytes, State.failEncoder]
  · simp only [heldBytes, State.takeAnswer_sinkHolds, State.afterSent_sinkHolds, List.length_append, List.length_cons]
    omega

/-- The most bytes a command offers. -/
def mostBytes : Instr → Nat
  | .encrst _ mode => if mode = 0 then 306 else 589
  | .encblk1 _ => 416
  | .encblk3 _ _ _ => 1120
  | .encfin => 4
  | _ => 0

theorem headerLength_le {mode : Fin 4} {m : ColorMode} (h : colorMode mode = some m) (expl : Bool) :
    headerLength m ≤ mostBytes (.encrst expl mode) := by
  revert mode m
  decide +revert

theorem BlockCommand.bytes_le {i : Instr} {most : Nat} (h : BlockCommand i most) : 2 * ((7 + most) / 8) ≤ mostBytes i := by
  cases h <;> simp [lumaBits, chromaBits, mostBytes]

/-- A flush and EOI are four bytes at most (R225, R235). -/
theorem flushBytes_append_eoi_length_le (acc : BitVec 7) (cnt : Fin 8) : (flushBytes acc cnt ++ eoi).length ≤ 4 := by
  obtain ⟨data, hdata, hflush⟩ := flushBytes_eq acc cnt
  have := flatMap_stuffed_length_le data
  simp only [hflush, List.length_append, eoi, marker, List.length_cons, List.length_nil]
  omega

theorem EncoderResult.bytes_le {i : Instr} {s t : State} (h : EncoderResult s i t) :
    t.sinkHolds.length + heldBytes t.engine ≤ s.sinkHolds.length + mostBytes i := by
  cases h with
  | rejected | refused | closed => exact Nat.le_add_right _ _
  | opened expl mode m hm =>
      refine (offer_sinkHolds_length_le _ _ _).trans (Nat.add_le_add_left ?_ _)
      rw [State.sessionHeader, headerBytes_length]
      exact headerLength_le hm expl
  | coded hblk k codes _ _ _ _ _ hbits =>
      refine (offer_sinkHolds_length_le _ _ _).trans (Nat.add_le_add_left ?_ _)
      have hout := putAll_out_length_le s.bitacc s.bitcnt codes
      have hmost := hblk.bytes_le
      exact hout.trans (by omega)
  | flushed =>
      exact (offer_sinkHolds_length_le _ _ _).trans (Nat.add_le_add_left (flushBytes_append_eoi_length_le _ _) _)

/-! ### The session's tables -/

/-- Of all commands only `ENCRST` reaches the session's tables (R40). -/
theorem exec_sqt {i : Instr} {s t : State} (he : exec i s = .next t) : t.sqt = s.sqt ∨ ∃ expl mode, i = .encrst expl mode := by
  cases hb : IsEncoder i with
  | false =>
      obtain ⟨u, hu, _, _, _, _, _, rfl, -⟩ := exec_buffer i s hb
      cases hu.symm.trans he
      exact .inl rfl
  | true =>
      obtain ⟨u, hu, hr⟩ := exec_encoder hb s
      cases hu.symm.trans he
      cases hr with
      | rejected expl mode | opened expl mode => exact .inr ⟨expl, mode, rfl⟩
      | refused | closed => exact .inl rfl
      | coded | flushed => exact .inl (by simp [State.emitBlocks])

end Sys2Proof.Machine

/-! ### The obligations -/

open Sys2Proof Sys2Proof.Machine

/-- Settles O19: the commands outside the encoder always complete; an encoder command that offers bytes may be held. -/
theorem commandsCompleteOrHold : Obligations.CommandsCompleteOrHold := by
  unfold Obligations.CommandsCompleteOrHold
  refine ⟨fun i s => ?_, fun i s t he hi => ?_⟩
  · obtain ⟨t, ht⟩ := exec_next i s
    exact ⟨t, ht, exec_completed_or_holding ht⟩
  · have hcode := exec_errcode_mem he hi
    cases i <;> exact hcode

/-- Settles O20: an error code from 1 to 5 is never one of a command that has offered its bytes. -/
theorem errorsWriteNothing : Obligations.ErrorsWriteNothing := by
  unfold Obligations.ErrorsWriteNothing
  intro i s t he hi hnone hio
  cases hb : IsEncoder i with
  | false =>
      obtain ⟨u, hu, slots, written, qt, draws, code, rfl, hkeep⟩ := exec_buffer i s hb
      cases hu.symm.trans he
      obtain ⟨rfl, rfl, rfl⟩ := hkeep hnone
      have hne : ¬ ∃ expl mode, i = .encrst expl mode := by rintro ⟨_, _, rfl⟩; cases hb
      rw [complete_of_error _ (show code ≠ .none from hnone), if_neg hne, if_neg (by simp)]
  | true =>
      obtain ⟨u, hu, hr⟩ := exec_encoder hb s
      cases hu.symm.trans he
      have offered {v : State} {fin : Finish} {bytes : List Byte} (hi : (v.offer fin bytes).engine = .idle)
          (hnone : (v.offer fin bytes).errcode ≠ .none) : (v.offer fin bytes).errcode = .io :=
        (offer_errcode hi).elim (fun h => absurd h.1 hnone) And.left
      cases hr with
      | rejected expl mode =>
          rw [failEncoder_eq _ (by decide), if_pos ⟨expl, mode, rfl⟩, if_pos ⟨rfl, ErrorCode.noConfusion⟩]
      | @refused _ _ hblk k code hcode =>
          have hbad := failEncoder_errcode_ne_badOperand (s := s.drawn k) hcode
          rw [if_neg hblk.ne_encrst, if_pos ⟨rfl, hbad⟩, failEncoder_eq _ (show code ≠ .none from hnone)]
          rfl
      | closed => exact absurd rfl hnone
      | opened | coded | flushed => exact absurd (offered hi hnone) hio

/-- Settles O22, by the ways an encoder command ends. -/
theorem encoderStateTransitions : Obligations.EncoderStateTransitions := by
  unfold Obligations.EncoderStateTransitions
  intro i s t he
  cases hb : IsEncoder i with
  | false =>
      obtain ⟨u, hu, _, _, _, _, _, rfl, -⟩ := exec_buffer i s hb
      cases hu.symm.trans he
      refine ⟨fun _ => rfl, fun _ => ⟨fun _ => rfl, fun _ => rfl, ?_, ?_, ?_⟩⟩
      · rintro ⟨_, _, rfl⟩; cases hb
      · rintro (⟨_, rfl⟩ | ⟨_, _, _, rfl⟩) <;> cases hb
      · rintro rfl; cases hb
  | true =>
      obtain ⟨u, hu, hr⟩ := exec_encoder hb s
      cases hu.symm.trans he
      have hbad : t.engine = .idle → t.errcode ≠ .badOperand := by
        obtain ⟨v, hv, hcode⟩ := exec_encoder_errcode_ne_badOperand hb s
        cases hv.symm.trans he
        exact hcode
      refine ⟨fun hheld => ?_, fun hi => ⟨fun h => absurd h (by simp), fun h => absurd h (hbad hi), ?_, ?_, ?_⟩⟩
      · cases hr with
        | rejected | refused | closed => exact absurd rfl hheld
        | opened | coded | flushed => exact offer_encState_of_held hheld
      · rintro ⟨expl, mode, rfl⟩
        cases hr with
        | rejected => rfl
        | opened => rcases offer_errcode hi with ⟨hc, hs⟩ | ⟨hc, hs⟩ <;> rw [hc, hs] <;> rfl
        | refused hblk | coded hblk => cases hblk
      · intro hblock
        cases hr with
        | rejected | opened | flushed | closed => simp at hblock
        | refused _ _ hcode =>
            refine ⟨fun hc => ?_, fun _ _ => rfl⟩
            rcases hcode with rfl | rfl | rfl <;> cases hc
        | coded _ k codes p0 p1 p2 hready =>
            rcases offer_errcode hi with ⟨hc, hs⟩ | ⟨hc, hs⟩
            · exact ⟨fun _ => ⟨hready, hs.trans hready⟩, fun hne => absurd hc hne⟩
            · exact ⟨fun h => ErrorCode.noConfusion (hc.symm.trans h), fun _ _ => hs⟩
      · rintro rfl
        cases hr with
        | refused hblk | coded hblk => cases hblk
        | closed => exact ⟨fun _ => rfl, fun hne => absurd rfl hne⟩
        | flushed hready =>
            rcases offer_errcode hi with ⟨hc, hs⟩ | ⟨hc, hs⟩
            · exact ⟨fun _ => hs, fun hne => absurd hc hne⟩
            · exact ⟨fun h => ErrorCode.noConfusion (hc.symm.trans h), fun _ => ⟨hready, hs⟩⟩

/-- Settles O55: nothing but the bytes of the command is offered, and these are bounded by the header's length, by the bits of
the blocks, and by the flush. -/
theorem byteBounds : Obligations.ByteBounds := by
  unfold Obligations.ByteBounds
  intro i s t he
  have hbound : t.sinkHolds.length + heldBytes t.engine ≤ s.sinkHolds.length + mostBytes i := by
    cases hb : IsEncoder i with
    | false =>
        obtain ⟨u, hu, _, _, _, _, _, rfl, -⟩ := exec_buffer i s hb
        cases hu.symm.trans he
        exact Nat.le_add_right _ _
    | true =>
        obtain ⟨u, hu, hr⟩ := exec_encoder hb s
        cases hu.symm.trans he
        exact hr.bytes_le
  cases i <;> exact hbound

end

section
/-! SUPPORT. The session's invariant (spec/10_state.md R40, R41, R43): what it depends on, that offering bytes keeps it, and that every
command and every turn does. -/

namespace Sys2Proof.Machine

namespace State

/-! ### What the invariant depends on -/

/-- `t` shows the same session as `s`, as far as the invariant looks at it. -/
structure SameSession (s t : State) : Prop where
  encState : t.encState = s.encState
  encMode : t.encMode = s.encMode
  sqt : t.sqt = s.sqt
  mcuTotal : t.mcuTotal = s.mcuTotal
  mcuCount : t.mcuCount = s.mcuCount
  bitacc : t.bitacc = s.bitacc
  bitcnt : t.bitcnt = s.bitcnt

theorem SameSession.refl (s : State) : SameSession s s := ⟨rfl, rfl, rfl, rfl, rfl, rfl, rfl⟩

theorem SameSession.openInv {s t : State} (h : SameSession s t) (ho : s.OpenInv) : t.OpenInv := by
  obtain ⟨-, hmode, hsqt, htotal, hcount, hacc, hcnt⟩ := h
  obtain ⟨htables, hmax, hle, hbits⟩ := ho
  refine ⟨?_, htotal ▸ hmax, ?_, ?_⟩
  · rw [tablesLegal, hsqt, hmode]; exact htables
  · rw [hcount, htotal]; exact hle
  · rw [hacc, hcnt]; exact hbits

theorem SameSession.holdInv {s t : State} (h : SameSession s t) {e : Engine} (he : s.holdInv e) : t.holdInv e := by
  cases e with
  | idle | accepted => trivial
  | offering b rest fin =>
      cases fin with
      | openSession => exact h.openInv he
      | codeBlocks => exact ⟨h.encState.trans he.1, by rw [h.mcuCount, h.mcuTotal]; exact he.2.1, he.2.2⟩
      | closeSession => exact h.encState.trans he

/-- The same session in an engine that is as before, or holds no byte. -/
theorem SessionInv.of_sameSession {s t : State} (hs : s.SessionInv) (h : SameSession s t)
    (he : t.engine = s.engine ∨ ∀ b rest fin, t.engine ≠ .offering b rest fin) : t.SessionInv := by
  refine ⟨fun hr => h.openInv (hs.isOpen (h.encState.symm.trans hr)), ?_⟩
  rcases he with he | he
  · rw [he]; exact h.holdInv hs.holding
  · cases hte : t.engine with
    | idle | accepted => trivial
    | offering b rest fin => exact absurd hte (he b rest fin)

/-- An idle engine and a session that is not open: nothing is asked. -/
theorem sessionInv_of_not_ready {t : State} (hr : t.encState ≠ .ready) (he : t.engine = .idle) : t.SessionInv :=
  ⟨fun h => absurd h hr, by rw [he]; trivial⟩

/-! ### Offering bytes -/

theorem sameSession_takeAnswer (s : State) : SameSession s s.takeAnswer := by constructor <;> simp

theorem sameSession_afterSent (s : State) (bs : List Byte) : SameSession s (s.afterSent bs) := by
  constructor <;> rw [afterSent_frame]

theorem SameSession.trans {s t u : State} (h : SameSession s t) (h' : SameSession t u) : SameSession s u := by
  constructor
  · exact h'.encState.trans h.encState
  · exact h'.encMode.trans h.encMode
  · exact h'.sqt.trans h.sqt
  · exact h'.mcuTotal.trans h.mcuTotal
  · exact h'.mcuCount.trans h.mcuCount
  · exact h'.bitacc.trans h.bitacc
  · exact h'.bitcnt.trans h.bitcnt

/-- What is left to do when the last byte is accepted keeps the invariant. -/
theorem finish_sessionInv {s : State} {fin : Finish} {b : Byte} {rest : List Byte} (ho : s.OpenInv)
    (hh : s.holdInv (.offering b rest fin)) : ((s.finish fin).complete .none).SessionInv := by
  cases fin with
  | openSession => exact ⟨fun _ => ⟨ho.tables, ho.total, ho.count, ho.bits⟩, trivial⟩
  | codeBlocks p0 p1 p2 acc cnt =>
      obtain ⟨-, hlt, hbits⟩ := hh
      refine ⟨fun _ => ⟨ho.tables, ho.total, ?_, hbits⟩, trivial⟩
      have hmax := ho.total
      show (s.mcuCount + 1).toNat ≤ s.mcuTotal.toNat
      rw [BitVec.toNat_add, show (1 : Word).toNat = 1 from rfl]
      omega
  | closeSession => exact sessionInv_of_not_ready (EncState.noConfusion ·) rfl

/-- An open session whose command may hold a byte has the invariant however the bytes are taken. -/
theorem offer_sessionInv {s : State} {fin : Finish} {b : Byte} {rest : List Byte} (ho : s.OpenInv)
    (hh : s.holdInv (.offering b rest fin)) (bytes : List Byte) : (s.offer fin bytes).SessionInv := by
  rcases s.offer_cases fin bytes with h | ⟨sent, c, later, -, ⟨-, h⟩ | ⟨-, h⟩⟩ <;> rw [h]
  · have hsent := s.sameSession_afterSent bytes
    exact finish_sessionInv (hsent.openInv ho) (hsent.holdInv hh)
  · exact sessionInv_of_not_ready (EncState.noConfusion ·) rfl
  · have hsent := (s.sameSession_afterSent sent).trans (sameSession_takeAnswer _)
    generalize (s.afterSent sent).takeAnswer = u at hsent
    have hheld : SameSession s { u with engine := .offering c later fin } :=
      ⟨hsent.encState, hsent.encMode, hsent.sqt, hsent.mcuTotal, hsent.mcuCount, hsent.bitacc, hsent.bitcnt⟩
    refine ⟨fun _ => hheld.openInv ho, hheld.holdInv (e := .offering c later fin) ?_⟩
    cases fin <;> exact hh

end State

/-! ### Commands -/

/-- An image `ENCRST` accepts has at most `2^26` MCUs (R41). -/
theorem mcuTotalOf_le {w h : Nat} (hw : w ≤ 65535) (hh : h ≤ 65535) : (mcuTotalOf w h).toNat ≤ 2 ^ 26 := by
  have : (w + 7) / 8 * ((h + 7) / 8) ≤ 8192 * 8192 := by gcongr <;> omega
  rw [mcuTotalOf, BitVec.toNat_ofNat]
  exact (Nat.mod_le _ _).trans this

theorem dimensionOk_iff (v : Word) : dimensionOk v = true ↔ 1 ≤ v.toNat ∧ v.toNat ≤ 65535 := decide_eq_true_iff

theorem explicitTablesOk_iff (m : ColorMode) (qt : Vector Table 2) : explicitTablesOk m qt = true ↔
    (∀ i : Fin 64, qt[0][i] ≠ 0) ∧ (m = .ycc444 → ∀ i : Fin 64, qt[1][i] ≠ 0) := by
  rw [explicitTablesOk, Bool.and_eq_true, Bool.or_eq_true, factorsOk_iff, factorsOk_iff]
  cases m <;> simp

/-- An empty bit buffer is a legal one. -/
theorem bitsLegal_zero : State.bitsLegal 0 0 := by unfold State.bitsLegal; decide

/-- A session that `ENCRST` sets up is a legal one (R171-R173). -/
theorem openInv_initSession {s : State} {m : ColorMode} {expl : Bool} (hw : dimensionOk s.sampledWidth = true)
    (hh : dimensionOk s.sampledHeight = true) (hq : expl = true → explicitTablesOk m s.qt = true) :
    (s.initSession m expl).OpenInv := by
  refine ⟨?_, mcuTotalOf_le ((dimensionOk_iff _).1 hw).2 ((dimensionOk_iff _).1 hh).2, Nat.zero_le _, bitsLegal_zero⟩
  cases expl with
  | true => exact (explicitTablesOk_iff m s.qt).1 (hq rfl)
  | false => exact ⟨buildTable_ne_zero baseL _, fun _ => buildTable_ne_zero baseC _⟩

/-- A block command's bytes keep the invariant: the calls of `PutBits` leave a legal bit buffer. -/
theorem emitBlocks_sessionInv {s : State} (hs : s.SessionInv) (hr : s.encState = .ready)
    (hlt : s.mcuCount.toNat < s.mcuTotal.toNat) (codes : List Bits) (p0 p1 p2 : S16) :
    (s.emitBlocks codes p0 p1 p2).SessionInv := by
  have ho := hs.isOpen hr
  exact State.offer_sessionInv (b := 0) (rest := []) (fin := .codeBlocks ..) ho ⟨hr, hlt, putAll_bitsLegal codes ho.bits⟩ _

theorem sessionInv_drawn {s : State} (hs : s.SessionInv) (k : Nat) : (s.drawn k).SessionInv :=
  hs.of_sameSession ⟨rfl, rfl, rfl, rfl, rfl, rfl, rfl⟩ (.inl rfl)

theorem sessionInv_failEncoder (s : State) (code : ErrorCode) : (s.failEncoder code).SessionInv :=
  State.sessionInv_of_not_ready (EncState.noConfusion ·) rfl

/-- Every command keeps the invariant. -/
theorem exec_sessionInv {i : Instr} {s t : State} (hs : s.SessionInv) (he : exec i s = .next t) : t.SessionInv := by
  cases hb : IsEncoder i with
  | false =>
      obtain ⟨u, hu, _, _, _, _, code, rfl, -⟩ := exec_buffer i s hb
      cases hu.symm.trans he
      exact hs.of_sameSession ⟨rfl, rfl, rfl, rfl, rfl, rfl, rfl⟩ (.inr fun _ _ _ => Engine.noConfusion)
  | true =>
      obtain ⟨u, hu, hr⟩ := exec_encoder hb s
      cases hu.symm.trans he
      cases hr with
      | rejected | refused => exact sessionInv_failEncoder _ _
      | opened expl mode m _ hw hh hq =>
          have ho := openInv_initSession (s := { s with incomplete := false }) hw hh hq
          exact State.offer_sessionInv (b := 0) (rest := []) (fin := .openSession) ho ho _
      | coded _ k codes p0 p1 p2 hready hcount => exact emitBlocks_sessionInv (sessionInv_drawn hs k) hready hcount _ _ _ _
      | flushed hready =>
          have ho := hs.isOpen hready
          refine State.offer_sessionInv (b := 0) (rest := []) (fin := .closeSession) ?_ ?_ _
          · exact ⟨ho.tables, ho.total, ho.count, bitsLegal_zero⟩
          · exact hready
      | closed => exact State.sessionInv_of_not_ready (EncState.noConfusion ·) rfl

/-! ### Turns -/

/-- The engine's move keeps the invariant. -/
theorem engineTurn_sessionInv {s t : State} (hs : s.SessionInv) (he : s.engineTurn = .next t) : t.SessionInv := by
  rcases engineTurn_cases s with ⟨-, h⟩ | (⟨-, i, -, h⟩ | ⟨-, _, -, h⟩) | ⟨b, rest, fin, hoff, h⟩
  · cases h.symm.trans he
    exact hs
  · exact exec_sessionInv hs (h.symm.trans he)
  · cases h.symm.trans he
    exact hs.of_sameSession ⟨rfl, rfl, rfl, rfl, rfl, rfl, rfl⟩ (.inr fun _ _ _ => Engine.noConfusion)
  · cases h.symm.trans he
    have hh : s.holdInv (.offering b rest fin) := hoff ▸ hs.holding
    refine State.offer_sessionInv ?_ hh _
    cases fin with
    | openSession => exact hh
    | codeBlocks => exact hs.isOpen hh.1
    | closeSession => exact hs.isOpen hh

/-- A host access reaches neither the session nor a held byte. -/
theorem hostAccess_sessionInv {s : State} (hs : s.SessionInv) (a : HostAccess) : (s.hostAccess a).SessionInv := by
  refine hs.of_sameSession ?_ ?_
  · constructor <;> rw [hostAccess_frame]
  · rcases hostAccess_engine s a with h | ⟨-, h⟩
    · exact .inl h
    · exact .inr fun b rest fin hoff => Engine.noConfusion (h.symm.trans hoff)

end Sys2Proof.Machine

/-! ### The obligations -/

open Sys2Proof Sys2Proof.Machine

/-- Settles O59: after reset no session is open and the engine is idle. -/
theorem resetHasSessionInvariant : Obligations.ResetHasSessionInvariant :=
  State.sessionInv_of_not_ready (EncState.noConfusion ·) rfl

/-- Settles O60, turn by turn: only the engine's move reaches the session; every command that can hold a byte begins in a session
that is open, or opens one. -/
theorem stepKeepsSessionInvariant : Obligations.StepKeepsSessionInvariant := by
  unfold Obligations.StepKeepsSessionInvariant
  intro s t hs hstep
  unfold step State.nextTurn at hstep
  split at hstep
  · exact engineTurn_sessionInv hs hstep
  · next turn rest _ =>
      have hs' : ({ s with turns := rest } : State).SessionInv :=
        hs.of_sameSession ⟨rfl, rfl, rfl, rfl, rfl, rfl, rfl⟩ (.inl rfl)
      cases turn with
      | engine => exact engineTurn_sessionInv hs' hstep
      | host a => cases hstep; exact hostAccess_sessionInv hs' a
      | both a => exact engineTurn_sessionInv (hostAccess_sessionInv hs' a) hstep
      | wait =>
          cases hstep
          rw [hostPoll_eq]
          exact hs'.of_sameSession ⟨rfl, rfl, rfl, rfl, rfl, rfl, rfl⟩ (.inl rfl)
      | reset => cases hstep; exact State.sessionInv_of_not_ready (EncState.noConfusion ·) rfl
      | freshSink =>
          cases hstep
          exact hs'.of_sameSession ⟨rfl, rfl, rfl, rfl, rfl, rfl, rfl⟩ (.inl rfl)

end

section
/-! SUPPORT. The host window (spec/20_memory.md R60-R68): where the registers stand, and what a legal access does while the engine is idle
and while it is busy. -/

namespace Sys2Proof.Machine

/-! ### The map -/

theorem locate_registers :
    locate 0x000 = .id ∧ locate 0x004 = .cfg ∧ locate 0x008 = .ctrl ∧ locate 0x00C = .status ∧ locate 0x010 = .cmd ∧
    locate 0x014 = .width ∧ locate 0x018 = .height ∧ locate 0x01C = .mcuTotal ∧ locate 0x020 = .mcuCount ∧
    locate 0x024 = .predDc0 ∧ locate 0x028 = .predDc1 ∧ locate 0x02C = .predDc2 ∧ locate 0x030 = .bitstate ∧
    locate 0x034 = .outCount := by
  decide

theorem registerAt_of_ge {n : Nat} (h : 0x038 ≤ n) : registerAt n = .unmapped := by
  unfold registerAt
  split
  case h_15 => rfl
  all_goals omega

/-- The gaps of the window (R61). -/
theorem locate_unmapped {off : Fin 8192} (h : 0x038 ≤ off.val ∧ off.val < 0x100 ∨ 0x300 ≤ off.val ∧ off.val < 0x1000) :
    locate off = .unmapped := by
  unfold locate
  obtain ⟨hlo, hhi⟩ | ⟨hlo, hhi⟩ := h
  · rw [if_pos hhi, registerAt_of_ge hlo]
  · rw [if_neg (by omega), if_neg (by omega), if_pos hhi]

/-- The two RAMs of the window (R61). -/
theorem locate_ram {off : Fin 8192} (h : 0x100 ≤ off.val ∧ off.val < 0x300 ∨ 0x1000 ≤ off.val) :
    (∃ t i, locate off = .qt t i) ∨ ∃ n i, locate off = .slot n i := by
  unfold locate
  obtain ⟨hlo, hhi⟩ | hlo := h
  · rw [if_neg (by omega), if_pos hhi]
    exact .inl ⟨_, _, rfl⟩
  · rw [if_neg (by omega), if_neg (by omega), if_neg (by omega)]
    exact .inr ⟨_, _, if_pos (Nat.mod_lt _ (by decide))⟩

/-- Below `0x100` an offset names what the register map says. -/
theorem locate_of_lt {off : Fin 8192} (h : off.val < 0x100) : locate off = registerAt off.val := if_pos h

/-- An offset that names a register is below `0x100`. -/
theorem locate_cases (off : Fin 8192) :
    off.val < 0x038 ∧ locate off = registerAt off.val ∨ locate off = .unmapped ∨
    (0x100 ≤ off.val ∧ off.val < 0x300 ∧ ∃ t i, locate off = .qt t i) ∨ (0x1000 ≤ off.val ∧ ∃ n i, locate off = .slot n i) := by
  by_cases hreg : off.val < 0x038
  · exact .inl ⟨hreg, locate_of_lt (by omega)⟩
  by_cases hgap : 0x038 ≤ off.val ∧ off.val < 0x100 ∨ 0x300 ≤ off.val ∧ off.val < 0x1000
  · exact .inr (.inl (locate_unmapped hgap))
  obtain ⟨t, i, h⟩ | ⟨n, i, h⟩ := locate_ram (off := off) (by omega)
  · have := locate_eq_qt h
    exact .inr (.inr (.inl ⟨by omega, by omega, t, i, h⟩))
  · have := locate_eq_slot h
    exact .inr (.inr (.inr ⟨by omega, n, i, h⟩))

/-- The offset of a register (R61). -/
def registerOffset : Location → Option Nat
  | .id => some 0x000
  | .cfg => some 0x004
  | .ctrl => some 0x008
  | .status => some 0x00C
  | .cmd => some 0x010
  | .width => some 0x014
  | .height => some 0x018
  | .mcuTotal => some 0x01C
  | .mcuCount => some 0x020
  | .predDc0 => some 0x024
  | .predDc1 => some 0x028
  | .predDc2 => some 0x02C
  | .bitstate => some 0x030
  | .outCount => some 0x034
  | _ => none

/-- Each register stands at one offset only. -/
theorem val_of_locate_register {off : Fin 8192} {l : Location} {n : Nat} (h : locate off = l) (hn : registerOffset l = some n) :
    off.val = n := by
  subst h
  rcases locate_cases off with ⟨-, hr⟩ | hr | ⟨-, -, _, _, hr⟩ | ⟨-, _, _, hr⟩ <;> rw [hr] at hn
  · unfold registerAt at hn
    split at hn
    case h_15 => cases hn
    all_goals
      rename_i hoff
      rw [hoff]
      exact Option.some.inj hn
  all_goals cases hn

/-- An aligned offset that names an entry of a slot is that entry's. -/
theorem eq_of_locate_slot {off : Fin 8192} {n : OpField} {i : Fin 64} (ha : off.val % 4 = 0) (h : locate off = .slot n i) :
    off.val = 0x1000 + 256 * n.val + 4 * i.val := by
  have hrange := locate_eq_slot h
  obtain ⟨j, hj⟩ : ∃ j : Fin 64, off.val = 0x1000 + 256 * n.val + 4 * j.val :=
    ⟨⟨(off.val - 0x1000 - 256 * n.val) / 4, by omega⟩, by simp only; omega⟩
  have hloc := locate_slot n j
  rw [show (⟨0x1000 + 256 * n.val + 4 * j.val, by omega⟩ : Fin 8192) = off from Fin.ext hj.symm, h] at hloc
  obtain ⟨-, rfl⟩ := Location.slot.inj hloc
  exact hj

/-- An aligned offset that names an entry of a table is that entry's. -/
theorem eq_of_locate_qt {off : Fin 8192} {t : Fin 2} {i : Fin 64} (ha : off.val % 4 = 0) (h : locate off = .qt t i) :
    off.val = 0x100 * (t.val + 1) + 4 * i.val := by
  have hrange := locate_eq_qt h
  obtain ⟨j, hj⟩ : ∃ j : Fin 64, off.val = 0x100 * (t.val + 1) + 4 * j.val :=
    ⟨⟨(off.val - 0x100 * (t.val + 1)) / 4, by omega⟩, by simp only; omega⟩
  have hloc := locate_qt t j
  rw [show (⟨0x100 * (t.val + 1) + 4 * j.val, by omega⟩ : Fin 8192) = off from Fin.ext hj.symm, h] at hloc
  obtain ⟨-, rfl⟩ := Location.qt.inj hloc
  exact hj

namespace State

/-! ### Legal accesses -/

section
variable (s : State) {off : Fin 8192} (ha : off.val % 4 = 0)
include ha

theorem hostAccess_read_legal : s.hostAccess (.read off 4) = s.hostRead (locate off) := if_pos ⟨rfl, ha⟩

theorem hostAccess_write_legal (v : Word) : s.hostAccess (.write off 4 v) = s.hostWrite (locate off) v := if_pos ⟨rfl, ha⟩

end

/-- A read returns the word there, unless the engine is busy and R68 calls the value unspecified. -/
theorem hostRead_eq {s : State} {l : Location} (h : s.busy = false ∨ freeWhileBusy l = false) :
    s.hostRead l = { s with busReply := .data (s.readIdle l) } := by
  refine if_neg ?_
  obtain h | h := h <;> simp [h]

/-- A read that R68 calls unspecified returns a free value. -/
theorem hostRead_of_busy {s : State} {l : Location} (hb : s.busy = true) (hl : freeWhileBusy l = true) :
    s.hostRead l = { s with
      busReply := .data (Config.freeWord s.draws), draws := s.draws + 1, accConflict := s.accConflict || conflicts l } :=
  if_pos (by rw [hb, hl]; rfl)

/-- A write to what a running command does not use, or to an idle engine, is taken. -/
theorem hostWrite_eq {s : State} {l : Location} (v : Word) (h : s.busy = false ∨ conflicts l = false ∧ l ≠ .cmd) :
    s.hostWrite l v = ({ s with busReply := .written } : State).writeIdle l v := by
  unfold hostWrite
  simp only [show ({ s with busReply := .written } : State).busy = s.busy from rfl]
  obtain h | ⟨hl, hcmd⟩ := h
  · simp [h]
  · simp [hl, hcmd]

/-- A write to a RAM while the engine is busy is dropped (R68). -/
theorem hostWrite_of_conflict {s : State} {l : Location} (v : Word) (hb : s.busy = true) (hl : conflicts l = true) :
    s.hostWrite l v = { s with busReply := .written, accConflict := true } := by
  unfold hostWrite
  exact if_pos (by rw [show ({ s with busReply := .written } : State).busy = true from hb, hl]; rfl)

/-- A write to `CMD` while the engine is busy is dropped (R291). -/
theorem hostWrite_cmd_of_busy {s : State} (v : Word) (hb : s.busy = true) :
    s.hostWrite .cmd v = { s with busReply := .written, cmdOverrun := true } := by
  unfold hostWrite
  refine (if_neg (by simp [conflicts])).trans (if_pos ?_)
  rw [show ({ s with busReply := .written } : State).busy = true from hb]
  rfl

/-- A read of `STATUS` returns the status word, busy or idle. -/
theorem hostAccess_read_status (s : State) : s.hostAccess (.read 0x00C 4) = { s with busReply := .data s.statusWord } := by
  obtain ⟨-, -, -, hstatus, -⟩ := locate_registers
  rw [hostAccess_read_legal s (by decide), hstatus, hostRead_eq (.inr rfl)]
  rfl

/-! ### The fields of `STATUS` -/

/-- The status word, bit by bit (R25). -/
theorem statusWord_getLsbD (s : State) (j : Nat) : s.statusWord.getLsbD j =
    if j = 0 then s.busy else if j = 1 then s.done else if j = 2 then s.err else if j = 3 then s.cmdOverrun
    else if j = 4 then s.accConflict else if j = 5 then s.incomplete else if j < 8 then false
    else if j < 12 then s.errcode.num.getLsbD (j - 8) else if j < 14 then s.encState.num.getLsbD (j - 12)
    else s.encMode.num.getLsbD (j - 14) := by
  unfold statusWord
  match j with
  | 0 | 1 | 2 | 3 | 4 | 5 => simp only [BitVec.getLsbD_append, BitVec.getLsbD_ofBool]; simp
  | j + 6 =>
      simp only [BitVec.getLsbD_append, BitVec.getLsbD_ofBool]
      simp [Nat.sub_sub]
      grind

theorem statusWord_reserved (s : State) : s.statusWord.extractLsb' 6 2 = 0 ∧ s.statusWord.extractLsb' 15 17 = 0 := by
  constructor <;> refine BitVec.eq_of_getLsbD_eq fun j hj => ?_ <;>
    simp only [BitVec.getLsbD_extractLsb', statusWord_getLsbD, BitVec.ofNat_eq_ofNat, BitVec.getLsbD_zero]
  · grind
  · rw [BitVec.getLsbD_of_ge _ (15 + j - 14) (by omega)]
    grind

theorem statusWord_errcode (s : State) : s.statusWord.extractLsb' 8 4 = s.errcode.num := by
  refine BitVec.eq_of_getLsbD_eq fun j hj => ?_
  rw [BitVec.getLsbD_extractLsb', statusWord_getLsbD, Nat.add_sub_cancel_left]
  grind

theorem statusWord_encState (s : State) : s.statusWord.extractLsb' 12 2 = s.encState.num := by
  refine BitVec.eq_of_getLsbD_eq fun j hj => ?_
  rw [BitVec.getLsbD_extractLsb', statusWord_getLsbD, Nat.add_sub_cancel_left]
  grind

theorem busy_iff (s : State) : s.busy = true ↔ s.engine ≠ .idle := bne_iff_ne

end State

end Sys2Proof.Machine

/-! ### The obligations -/

open Sys2Proof Sys2Proof.Machine

/-- Settles O14: the word bit by bit. -/
theorem statusWordFields : Obligations.StatusWordFields := by
  unfold Obligations.StatusWordFields
  intro s
  obtain ⟨hreserved, hreserved'⟩ := s.statusWord_reserved
  refine ⟨s.statusWord, by rw [s.hostAccess_read_status], ?_, s.statusWord_getLsbD 1, s.statusWord_getLsbD 2,
    s.statusWord_getLsbD 3, s.statusWord_getLsbD 4, s.statusWord_getLsbD 5, hreserved, ?_, ?_, ?_, hreserved'⟩
  · rw [s.statusWord_getLsbD 0]
    exact s.busy_iff
  · rw [s.statusWord_errcode]
    cases s.errcode <;> rfl
  · rw [s.statusWord_encState]
    cases s.encState <;> rfl
  · have hmode : s.statusWord.getLsbD 14 = s.encMode.num.getLsbD 0 := s.statusWord_getLsbD 14
    rw [hmode]
    cases s.encMode <;> decide

/-- Settles O16. -/
theorem cmdWriteIssuesOrOverruns : Obligations.CmdWriteIssuesOrOverruns := by
  unfold Obligations.CmdWriteIssuesOrOverruns
  intro s w
  obtain ⟨-, -, -, -, hcmd, -⟩ := locate_registers
  rw [s.hostAccess_write_legal (by decide), hcmd]
  refine ⟨fun hidle => ⟨_, rfl, ?_⟩, fun hbusy => State.hostWrite_cmd_of_busy w hbusy⟩
  rw [State.hostWrite_eq w (.inl hidle)]
  exact ⟨rfl, rfl, rfl⟩

end

section
/-! SUPPORT. Turns (spec/00_scope.md R9): the engine's move and the host's accesses answer a state, what they leave alone, and runs of
turns. -/

namespace Sys2Proof.Machine

/-! ### The engine's move -/

theorem engineTurn_next (s : State) : ∃ t, s.engineTurn = .next t := by
  rcases engineTurn_cases s with ⟨-, h⟩ | (⟨-, i, -, h⟩ | ⟨-, _, -, h⟩) | ⟨_, _, _, -, h⟩
  · exact ⟨_, h⟩
  · obtain ⟨t, ht⟩ := exec_next i s
    exact ⟨t, h.trans ht⟩
  · exact ⟨_, h⟩
  · exact ⟨_, h⟩

/-- An accepted command runs (R10). -/
theorem engineTurn_of_decoded {s : State} {i : Instr} (he : s.engine = .accepted) (hd : decode s.cmd = .ok i) :
    s.engineTurn = exec i s := by
  unfold State.engineTurn
  simp only [he, hd]

/-- The engine's move leaves the host's registers, its flags and the turns alone. -/
theorem engineTurn_frame {s t : State} (h : s.engineTurn = .next t) : EngineFrame s t := by
  rcases engineTurn_cases s with ⟨-, h'⟩ | (⟨-, i, -, h'⟩ | ⟨-, _, -, h'⟩) | ⟨_, _, _, -, h'⟩
  · cases h'.symm.trans h
    exact ⟨rfl, rfl, rfl, rfl, rfl, rfl, rfl, rfl, rfl, rfl⟩
  · exact exec_frame (h'.symm.trans h)
  · cases h'.symm.trans h
    exact engineFrame_complete s _
  · cases h'.symm.trans h
    exact engineFrame_offer s _ _

/-- The engine's move leaves an idle engine idle; otherwise the command completes, or a byte is held. -/
theorem engineTurn_status {s t : State} (h : s.engineTurn = .next t) : t = s ∨ Completed s t ∨ Holding s t := by
  rcases engineTurn_cases s with ⟨-, h'⟩ | (⟨-, i, -, h'⟩ | ⟨-, _, -, h'⟩) | ⟨_, _, _, -, h'⟩
  · cases h'.symm.trans h
    exact .inl rfl
  · exact .inr (exec_completed_or_holding (h'.symm.trans h))
  · cases h'.symm.trans h
    exact .inr (.inl ⟨rfl, rfl, rfl⟩)
  · cases h'.symm.trans h
    exact .inr (completed_or_holding_offer rfl rfl rfl _ _)

/-- No move of the engine clears `DONE`. -/
theorem engineTurn_done {s t : State} (h : s.engineTurn = .next t) (hd : s.done = true) : t.done = true := by
  obtain rfl | ⟨-, hdone, -⟩ | ⟨-, hdone, -⟩ := engineTurn_status h
  · exact hd
  · exact hdone
  · exact hdone.trans hd

/-! ### Turns -/

theorem takeTurn_next (s : State) (turn : Turn) : ∃ t, s.takeTurn turn = .next t := by
  cases turn with
  | engine => exact engineTurn_next s
  | both a => exact engineTurn_next _
  | _ => exact ⟨_, rfl⟩

theorem step_of_nil {s : State} (h : s.turns = []) : step s = s.engineTurn := by
  unfold step State.nextTurn
  rw [h]

theorem step_of_cons {s : State} {turn : Turn} {rest : List Turn} (h : s.turns = turn :: rest) :
    step s = ({ s with turns := rest } : State).takeTurn turn := by
  unfold step State.nextTurn
  rw [h]

/-- A step always answers a next state. -/
theorem step_next (s : State) : ∃ t, step s = .next t := by
  cases h : s.turns with
  | nil => rw [step_of_nil h]; exact engineTurn_next s
  | cons turn rest => rw [step_of_cons h]; exact takeTurn_next _ turn

theorem core_run_succ (M : Host.Core) {s t : M.State} (h : M.step s = .next t) (n : Nat) : M.run (n + 1) s = M.run n t := by
  simp only [Host.Core.run, h]

theorem run_succ {s t : State} (h : step s = .next t) (n : Nat) :
    Host.Core.run Sys2Proof.core (n + 1) s = Host.Core.run Sys2Proof.core n t :=
  core_run_succ Sys2Proof.core h n

/-! ### Host accesses in a row -/

theorem hostAccess_turns (s : State) (a : HostAccess) : (s.hostAccess a).turns = s.turns := by rw [hostAccess_frame]

/-- The state with other turns listed. -/
def State.withTurns (s : State) (r : List Turn) : State := { s with turns := r }

/-- The turns do not matter to a host access. -/
theorem hostAccess_withTurns (s : State) (a : HostAccess) (r : List Turn) :
    (s.withTurns r).hostAccess a = (s.hostAccess a).withTurns r := by
  cases a with
  | read off bytes =>
      by_cases hlegal : bytes = 4 ∧ off.val % 4 = 0
      · simp only [State.hostAccess, if_pos hlegal]
        by_cases hfree : s.busy = true ∧ State.freeWhileBusy (locate off) = true
        · obtain ⟨hb, hl⟩ := hfree
          rw [State.hostRead_of_busy hb hl, State.hostRead_of_busy (s := s.withTurns r) hb hl]
          rfl
        · have hread : s.busy = false ∨ State.freeWhileBusy (locate off) = false := by
            simpa [or_iff_not_imp_left] using hfree
          rw [State.hostRead_eq hread, State.hostRead_eq (s := s.withTurns r) hread]
          cases locate off <;> rfl
      · simp only [State.hostAccess, if_neg hlegal]
        rfl
  | write off bytes v =>
      by_cases hlegal : bytes = 4 ∧ off.val % 4 = 0
      · simp only [State.hostAccess, if_pos hlegal]
        by_cases hram : s.busy = true ∧ State.conflicts (locate off) = true
        · obtain ⟨hb, hl⟩ := hram
          rw [State.hostWrite_of_conflict v hb hl, State.hostWrite_of_conflict (s := s.withTurns r) v hb hl]
          rfl
        · by_cases hcmd : s.busy = true ∧ locate off = .cmd
          · obtain ⟨hb, hl⟩ := hcmd
            rw [hl, State.hostWrite_cmd_of_busy v hb, State.hostWrite_cmd_of_busy (s := s.withTurns r) v hb]
            rfl
          · have htaken : s.busy = false ∨ State.conflicts (locate off) = false ∧ locate off ≠ .cmd := by
              cases hb : s.busy <;> simp [hb] at hram hcmd ⊢
              exact ⟨hram, hcmd⟩
            rw [State.hostWrite_eq v htaken, State.hostWrite_eq (s := s.withTurns r) v htaken]
            cases locate off <;> rfl
      · simp only [State.hostAccess, if_neg hlegal]
        rfl

theorem foldl_hostAccess_withTurns (as : List HostAccess) (s : State) (r : List Turn) :
    as.foldl State.hostAccess (s.withTurns r) = (as.foldl State.hostAccess s).withTurns r := by
  induction as generalizing s with
  | nil => rfl
  | cons a as ih => rw [List.foldl_cons, hostAccess_withTurns, ih, List.foldl_cons]

/-- One step for each access of a list. -/
theorem run_hostAccesses (as : List HostAccess) {s : State} {rest : List Turn} (h : s.turns = as.map .host ++ rest) :
    Host.Core.run Sys2Proof.core as.length s = .next ((as.foldl State.hostAccess s).withTurns rest) := by
  induction as generalizing s with
  | nil => rw [List.map_nil, List.nil_append] at h; subst h; rfl
  | cons a as ih =>
      have hstep : step s = .next ((s.hostAccess a).withTurns (as.map .host ++ rest)) :=
        (step_of_cons h).trans (congrArg Host.Outcome.next (hostAccess_withTurns s a _))
      rw [List.length_cons, run_succ hstep, ih rfl, foldl_hostAccess_withTurns, List.foldl_cons]
      rfl

end Sys2Proof.Machine

/-! ### The obligations -/

open Sys2Proof Sys2Proof.Machine

/-- Settles O7: the engine's turn on an accepted word that decodes. -/
theorem stepRunsDecodedCommand : Obligations.StepRunsDecodedCommand := by
  unfold Obligations.StepRunsDecodedCommand
  refine ⟨fun s i he hd => ⟨fun hnil => ?_, fun rest hcons => ?_⟩, fun s nbits w i hw => ?_⟩
  · rw [step_of_nil hnil, engineTurn_of_decoded he hd]
  · rw [step_of_cons hcons]
    exact engineTurn_of_decoded he hd
  · have hd : decode (BitVec.ofNat 32 (w % 2 ^ nbits)) = .ok i := by
      unfold decodeTableWord at hw
      split at hw
      · cases hdec : decode (BitVec.ofNat 32 (w % 2 ^ nbits)) with
        | ok j => rw [hdec] at hw; exact congrArg _ (Option.some.inj hw)
        | error r => rw [hdec] at hw; cases hw
      · cases hw
    rw [step_of_cons (rest := s.turns) rfl]
    exact engineTurn_of_decoded (s := s.accept (BitVec.ofNat 32 (w % 2 ^ nbits))) rfl hd

/-- Settles O8: every step answers a next state. -/
theorem everyRunGoesOn : Obligations.EveryRunGoesOn := by
  unfold Obligations.EveryRunGoesOn NeverStops
  intro s n
  induction n generalizing s with
  | zero => exact ⟨s, rfl⟩
  | succ n ih =>
      obtain ⟨t, ht⟩ := step_next s
      rw [run_succ ht]
      exact ih t

/-- Settles O9: a turn of `WAIT` is one read of `STATUS`; a command is accepted, seen busy, run, and seen idle. -/
theorem waitReadsUntilIdle : Obligations.WaitReadsUntilIdle := by
  unfold Obligations.WaitReadsUntilIdle
  have hpoll {s : State} {rest : List Turn} (h : s.turns = hostWait :: rest) : step s = .next { s with
      busReply := .data s.statusWord, turns := if s.busy then .engine :: hostWait :: rest else rest } :=
    (step_of_cons h).trans (congrArg Host.Outcome.next (hostPoll_eq _))
  constructor
  · intro s rest h
    refine ⟨s.statusWord, by rw [s.hostAccess_read_status], s.statusWord_getLsbD 0, ?_⟩
    rw [hpoll h, s.statusWord_getLsbD 0]
    rfl
  · intro i s u rest hidle hturns a hexec hu
    have hwrite : step s = .next { a with busReply := .written } := by
      obtain ⟨-, -, -, -, hcmd, -⟩ := locate_registers
      refine (step_of_cons hturns).trans (congrArg Host.Outcome.next ?_)
      refine (State.hostAccess_write_legal _ (by decide) _).trans ?_
      rw [hcmd]
      exact State.hostWrite_eq _ (.inl hidle)
    have hwait := hpoll (s := { a with busReply := .written }) (rest := rest) rfl
    have hrun : step { a with busReply := .data a.statusWord, turns := .engine :: hostWait :: rest } = .next u := by
      rw [step_of_cons (turn := .engine) (rest := hostWait :: rest) rfl, ← hexec]
      exact engineTurn_of_decoded (s := { a with busReply := .data a.statusWord }) rfl (decodeEncodeAgree i)
    have huturns : u.turns = hostWait :: rest := (exec_frame hexec).turns
    have hdone := hpoll huturns
    rw [show u.busy = false from by rw [State.busy, hu]; rfl] at hdone
    rw [run_succ hwrite, run_succ hwait]
    refine (run_succ hrun 1).trans ((run_succ hdone 0).trans rfl)

/-- Settles O15: `STATUS` is written before the engine moves, so what the completion sets stays set. -/
theorem statusWriteClearsFlags : Obligations.StatusWriteClearsFlags := by
  unfold Obligations.StatusWriteClearsFlags
  have hwrite (s : State) (v : Word) : s.hostAccess (.write 0x00C 4 v) = ({ s with busReply := .written } : State).clearStatus v := by
    obtain ⟨-, -, -, hstatus, -⟩ := locate_registers
    rw [State.hostAccess_write_legal _ (by decide), hstatus, State.hostWrite_eq _ (.inr ⟨rfl, Location.noConfusion⟩)]
    rfl
  constructor
  · intro s v
    have hclear (b c : Bool) : (b && !c) = if c then false else b := by cases c <;> simp
    rw [hwrite, State.clearStatus]
    simp only [hclear]
  · intro s t v rest hturns hbusy hstep hidle
    rw [step_of_cons hturns] at hstep
    have hmove : (({ s with turns := rest } : State).hostAccess (.write 0x00C 4 v)).engineTurn = .next t := hstep
    rw [hwrite] at hmove
    obtain rfl | ⟨-, hdone, herr⟩ | hheld := engineTurn_status hmove
    · exact absurd hidle hbusy
    · refine ⟨hdone, fun hcode => ?_⟩
      rw [herr, bne_iff_ne.2 hcode, Bool.or_true]
    · exact absurd hidle hheld.not_idle

end

section
/-! SUPPORT. What the window shows (spec/20_memory.md R60-R68): after reset, after a write, and while a command
runs. -/

namespace Sys2Proof.Machine

/-! ### Registers -/

/-- The read-only registers from `MCU_TOTAL` on, and the two constants (R64). -/
theorem writeIdle_readOnly {off : Fin 8192}
    (h : off.val = 0x000 ∨ off.val = 0x004 ∨ off.val % 4 = 0 ∧ 0x01C ≤ off.val ∧ off.val ≤ 0x034) (s : State) (v : Word) :
    State.conflicts (locate off) = false ∧ locate off ≠ .cmd ∧ s.writeIdle (locate off) v = s := by
  obtain ⟨off, hoff⟩ := off
  have hcases : off ∈ [0x000, 0x004, 0x01C, 0x020, 0x024, 0x028, 0x02C, 0x030, 0x034] := by
    simp only [List.mem_cons, List.not_mem_nil, or_false]
    simp only at h
    omega
  fin_cases hcases <;> exact ⟨rfl, Location.noConfusion, rfl⟩

/-- The pending bits as `BITSTATE` shows them: no bit at or above `BITCNT` (R43). -/
theorem bitstateWord_getLsbD (s : State) (j : Nat) : s.bitstateWord.getLsbD j =
    if j < 7 then decide (j < s.bitcnt.val) && s.bitacc.getLsbD j
    else if j < 8 then false else if j < 11 then (BitVec.ofNat 3 s.bitcnt.val).getLsbD (j - 8) else false := by
  have hmask (j : Nat) : (BitVec.ofNat 7 (2 ^ s.bitcnt.val - 1)).getLsbD j = (decide (j < 7) && decide (j < s.bitcnt.val)) := by
    rw [BitVec.getLsbD_ofNat, Nat.testBit_two_pow_sub_one]
  simp only [State.bitstateWord, BitVec.getLsbD_append, BitVec.getLsbD_and, hmask, BitVec.getLsbD_zero]
  grind

/-- An empty bit buffer reads 0. -/
theorem bitstateWord_eq_zero {s : State} (hacc : s.bitacc = 0) (hcnt : s.bitcnt = 0) : s.bitstateWord = 0 := by
  rw [State.bitstateWord, hacc, hcnt]
  decide

theorem bitstateWord_fields (s : State) :
    s.bitstateWord.extractLsb' 8 3 = BitVec.ofNat 3 s.bitcnt.val ∧ s.bitstateWord.extractLsb' 11 21 = 0 := by
  constructor <;> refine BitVec.eq_of_getLsbD_eq fun j hj => ?_
  · rw [BitVec.getLsbD_extractLsb', bitstateWord_getLsbD, Nat.add_sub_cancel_left]
    grind
  · rw [BitVec.getLsbD_extractLsb', bitstateWord_getLsbD]
    grind

/-- Reads while a command runs that act as while idle (R68). -/
theorem freeWhileBusy_eq_false {off : Fin 8192} (ha : off.val % 4 = 0)
    (h : off.val < 0x01C ∨ 0x038 ≤ off.val ∧ off.val < 0x100 ∨ 0x300 ≤ off.val ∧ off.val < 0x1000) :
    State.freeWhileBusy (locate off) = false := by
  obtain hlow | hgap := h
  · obtain ⟨off, hoff⟩ := off
    have hcases : off ∈ [0x000, 0x004, 0x008, 0x00C, 0x010, 0x014, 0x018] := by
      simp only [List.mem_cons, List.not_mem_nil, or_false]
      simp only at hlow ha
      omega
    fin_cases hcases <;> rfl
  · rw [locate_unmapped hgap]
    rfl

/-- Reads while a command runs that return a free value and set no flag (R68). -/
theorem freeWhileBusy_register {off : Fin 8192} (ha : off.val % 4 = 0) (hlo : 0x020 ≤ off.val) (hhi : off.val ≤ 0x034) :
    State.freeWhileBusy (locate off) = true ∧ State.conflicts (locate off) = false := by
  obtain ⟨off, hoff⟩ := off
  have hcases : off ∈ [0x020, 0x024, 0x028, 0x02C, 0x030, 0x034] := by
    simp only [List.mem_cons, List.not_mem_nil, or_false]
    simp only at hlo hhi ha
    omega
  fin_cases hcases <;> exact ⟨rfl, rfl⟩

theorem conflicts_ram {off : Fin 8192} (h : 0x100 ≤ off.val ∧ off.val < 0x300 ∨ 0x1000 ≤ off.val) :
    State.conflicts (locate off) = true := by
  obtain ⟨_, _, hl⟩ | ⟨_, _, hl⟩ := locate_ram h <;> rw [hl] <;> rfl

/-! ### Accesses while idle -/

section
variable {s : State} (hidle : s.busy = false) {off : Fin 8192} (ha : off.val % 4 = 0)
include hidle ha

theorem hostAccess_read_idle : s.hostAccess (.read off 4) = { s with busReply := .data (s.readIdle (locate off)) } :=
  (s.hostAccess_read_legal ha).trans (State.hostRead_eq (.inl hidle))

theorem hostAccess_write_idle (v : Word) :
    s.hostAccess (.write off 4 v) = ({ s with busReply := .written } : State).writeIdle (locate off) v :=
  (s.hostAccess_write_legal ha v).trans (State.hostWrite_eq v (.inl hidle))

end

end Sys2Proof.Machine

/-! ### The obligations -/

open Sys2Proof Sys2Proof.Machine

/-- Settles O10: the registers after reset do not depend on what the reset leaves open or to the environment. -/
theorem resetFromAnyState : Obligations.ResetFromAnyState := by
  unfold Obligations.ResetFromAnyState
  intro values
  have hstatus : State.reset.statusWord = 0 := by decide
  have hvalues (slots qt sqt sinkHolds busReply turns sink draws) : values { State.reset with
      slots := slots, qt := qt, sqt := sqt, sinkHolds := sinkHolds, busReply := busReply, turns := turns, sink := sink
      draws := draws } := by
    refine ⟨rfl, rfl, rfl, hstatus, rfl, rfl, rfl, rfl, rfl, rfl, rfl, rfl, bitstateWord_eq_zero rfl rfl, rfl, rfl, rfl, rfl, rfl, rfl,
      fun n => ?_⟩
    have hunwritten (i : Fin 64) : State.reset.written[n][i] = false := by simp [State.reset]
    exact ⟨decide_eq_false fun h => absurd ((hunwritten 0).symm.trans (h 0)) (by decide), hunwritten⟩
  refine ⟨hvalues .., fun s rest hturns => ?_⟩
  exact ⟨_, step_of_cons hturns, hvalues .., rfl, rfl⟩

/-- Settles O12. -/
theorem inertAccesses : Obligations.InertAccesses := by
  unfold Obligations.InertAccesses
  refine ⟨fun s off v ha hgap => ?_, fun s off v hro => ?_, fun s off ha hidle => hostAccess_read_idle hidle ha, fun s hidle => ?_⟩
  · have hl := locate_unmapped hgap
    rw [s.hostAccess_read_legal ha, s.hostAccess_write_legal ha, hl, State.hostRead_eq (.inr rfl),
      State.hostWrite_eq v (.inr ⟨rfl, Location.noConfusion⟩)]
    exact ⟨rfl, rfl⟩
  · obtain ⟨hram, hcmd, hsame⟩ := writeIdle_readOnly hro { s with busReply := .written } v
    rw [s.hostAccess_write_legal (by omega), State.hostWrite_eq v (.inr ⟨hram, hcmd⟩), hsame]
  · intro reads
    obtain ⟨hid, hcfg, hctrl, -, hcmd, hwidth, hheight, htotal, hcount, hp0, hp1, hp2, hbits, hout⟩ := locate_registers
    have hreads {off : Fin 8192} {l : Location} (hl : locate off = l) (ha : off.val % 4 = 0) : reads off (s.readIdle l) :=
      hl ▸ hostAccess_read_idle hidle ha
    have hsigned (p : S16) : (p.signExtend 32).toInt = p.toInt := BitVec.toInt_signExtend_of_le (by decide)
    refine ⟨hreads hid (by decide), hreads hcfg (by decide), ?_, hreads hcmd (by decide), hreads hwidth (by decide),
      hreads hheight (by decide), hreads htotal (by decide), hreads hcount (by decide),
      ⟨_, hreads hp0 (by decide), hsigned _⟩, ⟨_, hreads hp1 (by decide), hsigned _⟩, ⟨_, hreads hp2 (by decide), hsigned _⟩,
      ⟨_, hreads hbits (by decide), fun j hj => ?_, bitstateWord_getLsbD s 7, ?_, ?_⟩, hreads hout (by decide)⟩
    · have hword : s.readIdle .ctrl = if s.ctrlIE then 1 else 0 := by
        rw [State.readIdle]
        cases s.ctrlIE <;> decide
      exact hword ▸ hreads hctrl (by decide)
    · rw [State.readIdle, bitstateWord_getLsbD, if_pos hj]
    · rw [State.readIdle, (bitstateWord_fields s).1, BitVec.toNat_ofNat, Nat.mod_eq_of_lt s.bitcnt.isLt]
    · exact (bitstateWord_fields s).2

/-- Settles O17: which locations a running command uses decides what an access does. -/
theorem busyAccesses : Obligations.BusyAccesses := by
  unfold Obligations.BusyAccesses
  obtain ⟨-, -, hctrl, -, hcmd, hwidth, hheight, -⟩ := locate_registers
  refine ⟨fun s hbusy => ⟨fun off ha hram => ⟨fun v => ?_, ?_⟩, fun off ha hlo hhi => ?_, fun v => ?_, fun off ha h => ?_⟩,
    fun s v => ⟨?_, ?_, ?_⟩⟩
  · exact (s.hostAccess_write_legal ha v).trans (State.hostWrite_of_conflict v hbusy (conflicts_ram hram))
  · have hl := conflicts_ram hram
    rw [s.hostAccess_read_legal ha, State.hostRead_of_busy hbusy (by simp [State.freeWhileBusy, hl]), hl, Bool.or_true]
  · obtain ⟨hfree, hl⟩ := freeWhileBusy_register ha hlo hhi
    rw [s.hostAccess_read_legal ha, State.hostRead_of_busy hbusy hfree, hl, Bool.or_false]
  · rw [s.hostAccess_write_legal (by decide), hcmd, State.hostWrite_cmd_of_busy v hbusy]
  · exact (s.hostAccess_read_legal ha).trans (State.hostRead_eq (.inr (freeWhileBusy_eq_false ha h)))
  · rw [s.hostAccess_write_legal (by decide), hwidth, State.hostWrite_eq v (.inr ⟨rfl, Location.noConfusion⟩)]
    rfl
  · rw [s.hostAccess_write_legal (by decide), hheight, State.hostWrite_eq v (.inr ⟨rfl, Location.noConfusion⟩)]
    rfl
  · rw [s.hostAccess_write_legal (by decide), hctrl, State.hostWrite_eq v (.inr ⟨rfl, Location.noConfusion⟩)]
    rfl

end

section
/-! SUPPORT. Writing entries one by one (spec/30_encoding.md R92 `LDS`, `LDQ`), and what a step can do to the interrupt, to the stream and
to the session's tables. -/

namespace Sys2Proof.Machine

/-! ### Entries -/

section
variable {s : State} (hidle : s.busy = false)
include hidle

theorem hostAccess_write_slot (n : OpField) (i : Fin 64) (v : Word) :
    s.hostAccess (.write ⟨0x1000 + 256 * n.val + 4 * i.val, by omega⟩ 4 v) = { s with
      busReply := .written
      slots := s.slots.set n (s.slots[n].set i (v.setWidth 16)), written := s.written.set n (s.written[n].set i true) } := by
  rw [hostAccess_write_idle hidle (by simp only; omega), locate_slot]
  rfl

theorem hostAccess_write_qt (n : Fin 2) (i : Fin 64) (v : Word) :
    s.hostAccess (.write ⟨0x100 * (n.val + 1) + 4 * i.val, by omega⟩ 4 v) = { s with
      busReply := .written, qt := s.qt.set n (s.qt[n].set i (v.setWidth 8)) } := by
  rw [hostAccess_write_idle hidle (by simp only; omega), locate_qt]
  rfl

end

/-- Entry by entry, a vector takes the values of `f`. -/
theorem foldl_set_finRange {α : Type} (f : Fin 64 → α) (b : Vector α 64) :
    (List.finRange 64).foldl (fun b i => b.set i (f i)) b = Vector.ofFn f := by
  have hentry (l : List (Fin 64)) (b : Vector α 64) (j : Fin 64) :
      (l.foldl (fun b i => b.set i (f i)) b)[j.val] = if j ∈ l then f j else b[j.val] := by
    induction l generalizing b with
    | nil => rfl
    | cons i l ih =>
        rw [List.foldl_cons, ih]
        by_cases hl : j ∈ l
        · simp [hl]
        · by_cases hij : j = i
          · simp [hij]
          · have hne : i.val ≠ j.val := fun e => hij (Fin.ext e.symm)
            simp [hl, hij, Vector.getElem_set_ne, hne]
  refine Vector.ext fun j hj => ?_
  have := hentry (List.finRange 64) b ⟨j, hj⟩
  simpa using this

/-- The accesses of `LDS`, and of any part of it. -/
def slotWrites (n : OpField) (v : Vector Word 64) (l : List (Fin 64)) : List HostAccess :=
  l.map fun i => .write ⟨0x1000 + 256 * n.val + 4 * i.val, by omega⟩ 4 v[i]

/-- The accesses of `LDQ`, and of any part of it. -/
def tableWrites (n : Fin 2) (v : Vector Word 64) (l : List (Fin 64)) : List HostAccess :=
  l.map fun i => .write ⟨0x100 * (n.val + 1) + 4 * i.val, by omega⟩ 4 v[i]

theorem foldl_slotWrites {s : State} (hidle : s.busy = false) (n : OpField) (v : Vector Word 64) (i : Fin 64) (l : List (Fin 64)) :
    (slotWrites n v (i :: l)).foldl State.hostAccess s = { s with
      busReply := .written
      slots := s.slots.set n ((i :: l).foldl (fun b (i : Fin 64) => b.set i (v[i].setWidth 16)) s.slots[n])
      written := s.written.set n ((i :: l).foldl (fun b (i : Fin 64) => b.set i true) s.written[n]) } := by
  induction l generalizing i s with
  | nil => exact hostAccess_write_slot hidle n i v[i]
  | cons j l ih =>
      have hfirst := hostAccess_write_slot hidle n i v[i]
      rw [slotWrites, List.map_cons, List.foldl_cons, hfirst]
      refine (ih (by exact hidle) j).trans ?_
      simp

theorem foldl_tableWrites {s : State} (hidle : s.busy = false) (n : Fin 2) (v : Vector Word 64) (i : Fin 64) (l : List (Fin 64)) :
    (tableWrites n v (i :: l)).foldl State.hostAccess s = { s with
      busReply := .written
      qt := s.qt.set n ((i :: l).foldl (fun b (i : Fin 64) => b.set i (v[i].setWidth 8)) s.qt[n]) } := by
  induction l generalizing i s with
  | nil => exact hostAccess_write_qt hidle n i v[i]
  | cons j l ih =>
      have hfirst := hostAccess_write_qt hidle n i v[i]
      rw [tableWrites, List.map_cons, List.foldl_cons, hfirst]
      refine (ih (by exact hidle) j).trans ?_
      simp

/-- The word at a location that the write of a slot entry does not reach. -/
theorem readIdle_set_slot (s : State) {n : OpField} {i : Fin 64} (x : S16) (w : Vector (Vector Bool 64) 16) {l : Location}
    (h : l ≠ .slot n i) :
    ({ s with busReply := .written, slots := s.slots.set n (s.slots[n].set i x), written := w } : State).readIdle l =
      s.readIdle l := by
  cases l with
  | slot m j =>
      by_cases hm : m = n
      · subst hm
        have hj : i.val ≠ j.val := fun e => h (by rw [Fin.ext e])
        simp [State.readIdle, Vector.getElem_set_ne, hj]
      · have hm : n.val ≠ m.val := fun e => hm (Fin.ext e.symm)
        simp [State.readIdle, Vector.getElem_set_ne, hm]
  | _ => rfl

theorem readIdle_set_qt (s : State) {n : Fin 2} {i : Fin 64} (x : Byte) {l : Location} (h : l ≠ .qt n i) :
    ({ s with busReply := .written, qt := s.qt.set n (s.qt[n].set i x) } : State).readIdle l = s.readIdle l := by
  cases l with
  | qt m j =>
      by_cases hm : m = n
      · subst hm
        have hj : i.val ≠ j.val := fun e => h (by rw [Fin.ext e])
        simp [State.readIdle, Vector.getElem_set_ne, hj]
      · have hm : n.val ≠ m.val := fun e => hm (Fin.ext e.symm)
        simp [State.readIdle, Vector.getElem_set_ne, hm]
  | _ => rfl

/-! ### The interrupt -/

/-- A host access leaves `IE` and `DONE` alone, unless it is a legal write to `CTRL` or `STATUS`. -/
theorem hostAccess_irq (s : State) (a : HostAccess) :
    (s.hostAccess a).irq = s.irq ∨ ∃ off v, (off = 0x008 ∨ off = 0x00C) ∧ a = .write off 4 v := by
  cases a with
  | read off bytes =>
      left
      simp only [State.hostAccess, State.hostRead]
      split
      · split <;> rfl
      · rfl
  | write off bytes v =>
      by_cases hlegal : bytes = 4 ∧ off.val % 4 = 0
      · obtain ⟨rfl, ha⟩ := hlegal
        cases hl : locate off with
        | ctrl => exact .inr ⟨off, v, .inl (Fin.ext (val_of_locate_register hl rfl)), rfl⟩
        | status => exact .inr ⟨off, v, .inr (Fin.ext (val_of_locate_register hl rfl)), rfl⟩
        | _ =>
            left
            rw [s.hostAccess_write_legal ha, hl]
            unfold State.hostWrite
            dsimp only
            split
            · rfl
            · split <;> rfl
      · left
        rw [State.hostAccess_write_illegal _ _ hlegal]
        rfl

theorem irq_iff (s : State) : s.irq = true ↔ s.ctrlIE = true ∧ s.done = true := by
  rw [State.irq, Bool.and_eq_true]

/-- No move of the engine deasserts the interrupt. -/
theorem engineTurn_irq {s t : State} (h : s.engineTurn = .next t) (hirq : s.irq = true) : t.irq = true := by
  obtain ⟨hie, hdone⟩ := (irq_iff s).1 hirq
  exact (irq_iff t).2 ⟨(engineTurn_frame h).ctrlIE.trans hie, engineTurn_done h hdone⟩

/-! ### The stream and what the sink holds -/

/-- `OUT_COUNT` is the length of the stream (R44). -/
def State.counted (s : State) : Prop := s.outCount = BitVec.ofNat 32 s.stream.length

/-- What a command or a turn may do to the stream: the count stays right, and the sink only gains bytes. -/
def StreamGrows (s t : State) : Prop := (s.counted → t.counted) ∧ s.sinkHolds <+: t.sinkHolds

theorem streamGrows_of_eq {s t : State} (hout : t.outCount = s.outCount) (hstream : t.stream = s.stream)
    (hholds : t.sinkHolds = s.sinkHolds) : StreamGrows s t := by
  refine ⟨fun h => ?_, hholds ▸ List.prefix_refl _⟩
  rw [State.counted, hout, hstream]
  exact h

theorem StreamGrows.trans {s t u : State} (h : StreamGrows s t) (h' : StreamGrows t u) : StreamGrows s u :=
  ⟨h'.1 ∘ h.1, h.2.trans h'.2⟩

theorem streamGrows_afterSent (s : State) (bs : List Byte) : StreamGrows s (s.afterSent bs) := by
  refine ⟨fun h => ?_, by simp⟩
  rw [State.counted] at h ⊢
  simp [h, BitVec.ofNat_add]

theorem streamGrows_offer (s : State) (fin : Finish) (bytes : List Byte) : StreamGrows s (s.offer fin bytes) := by
  rcases s.offer_cases fin bytes with h | ⟨sent, b, rest, -, ⟨-, h⟩ | ⟨-, h⟩⟩ <;> rw [h]
  · refine (streamGrows_afterSent s bytes).trans (streamGrows_of_eq ?_ ?_ ?_) <;> simp
  · refine (streamGrows_afterSent s sent).trans (streamGrows_of_eq ?_ ?_ ?_) <;> simp [State.failEncoder]
  · refine (streamGrows_afterSent s sent).trans (streamGrows_of_eq ?_ ?_ ?_) <;> simp

theorem exec_streamGrows {i : Instr} {s t : State} (he : exec i s = .next t) : StreamGrows s t := by
  cases hb : IsEncoder i with
  | false =>
      obtain ⟨u, hu, _, _, _, _, _, rfl, -⟩ := exec_buffer i s hb
      cases hu.symm.trans he
      exact streamGrows_of_eq rfl rfl rfl
  | true =>
      obtain ⟨u, hu, hr⟩ := exec_encoder hb s
      cases hu.symm.trans he
      cases hr with
      | rejected | refused | closed => exact streamGrows_of_eq rfl rfl rfl
      | opened expl mode m =>
          have hstart : StreamGrows s (({ s with incomplete := false } : State).initSession m expl) :=
            ⟨fun _ => rfl, List.prefix_refl _⟩
          exact hstart.trans (streamGrows_offer _ _ _)
      | coded _ k =>
          have hstart : StreamGrows s (s.drawn k) := streamGrows_of_eq rfl rfl rfl
          exact hstart.trans (streamGrows_offer _ _ _)
      | flushed =>
          have hstart : StreamGrows s
              { s with incomplete := decide (s.mcuCount.toNat < s.mcuTotal.toNat), bitacc := 0, bitcnt := 0 } :=
            streamGrows_of_eq rfl rfl rfl
          exact hstart.trans (streamGrows_offer _ _ _)

theorem engineTurn_streamGrows {s t : State} (h : s.engineTurn = .next t) : StreamGrows s t := by
  rcases engineTurn_cases s with ⟨-, h'⟩ | (⟨-, i, -, h'⟩ | ⟨-, _, -, h'⟩) | ⟨_, _, _, -, h'⟩
  · cases h'.symm.trans h
    exact streamGrows_of_eq rfl rfl rfl
  · exact exec_streamGrows (h'.symm.trans h)
  · cases h'.symm.trans h
    exact streamGrows_of_eq rfl rfl rfl
  · cases h'.symm.trans h
    exact streamGrows_offer s _ _

theorem hostAccess_streamGrows (s : State) (a : HostAccess) : StreamGrows s (s.hostAccess a) :=
  streamGrows_of_eq (by rw [hostAccess_frame]) (by rw [hostAccess_frame]) (by rw [hostAccess_frame])

/-! ### The session's tables -/

/-- The engine's move changes the session's tables only where it runs `ENCRST`. -/
theorem engineTurn_sqt {s t : State} (h : s.engineTurn = .next t) (hne : t.sqt ≠ s.sqt) :
    s.engine = .accepted ∧ ∃ expl mode, decode s.cmd = .ok (.encrst expl mode) := by
  rcases engineTurn_cases s with ⟨-, h'⟩ | (⟨he, i, hd, h'⟩ | ⟨-, _, -, h'⟩) | ⟨_, _, _, -, h'⟩
  · cases h'.symm.trans h
    exact absurd rfl hne
  · obtain hsame | ⟨expl, mode, rfl⟩ := exec_sqt (h'.symm.trans h)
    · exact absurd hsame hne
    · exact ⟨he, expl, mode, hd⟩
  · cases h'.symm.trans h
    exact absurd rfl hne
  · cases h'.symm.trans h
    exact absurd (by simp) hne

theorem hostAccess_sqt (s : State) (a : HostAccess) : (s.hostAccess a).sqt = s.sqt := by rw [hostAccess_frame]

end Sys2Proof.Machine

/-! ### The obligations -/

open Sys2Proof Sys2Proof.Machine

/-- Settles O13: an entry stands at one offset, and the 64 writes set the entries one by one. -/
theorem entriesHoldWrites : Obligations.EntriesHoldWrites := by
  unfold Obligations.EntriesHoldWrites
  obtain ⟨i₀, l₀, hall⟩ : ∃ i l, List.finRange 64 = i :: l := ⟨_, _, List.finRange_succ⟩
  refine ⟨fun s n i v hidle => ?_, fun s n i v hidle => ?_, fun s n i v hidle => hostAccess_write_slot hidle n i v,
    fun s n i v hidle => hostAccess_write_qt hidle n i v, fun s n v rest hidle hturns => ?_, fun s n v rest hidle hturns => ?_⟩
  · intro off t
    have ht : t = { s with
        busReply := .written
        slots := s.slots.set n (s.slots[n].set i (v.setWidth 16)), written := s.written.set n (s.written[n].set i true) } :=
      hostAccess_write_slot hidle n i v
    have htidle : t.busy = false := by rw [ht]; exact hidle
    refine ⟨?_, fun off' ha hne => ?_⟩
    · rw [hostAccess_read_idle htidle (by simp only [off]; omega), locate_slot, ht]
      simp [State.readIdle]
    · have hl : locate off' ≠ .slot n i := fun hl => hne (Fin.ext (eq_of_locate_slot ha hl))
      rw [hostAccess_read_idle htidle ha, hostAccess_read_idle hidle ha, ht]
      exact congrArg BusReply.data (readIdle_set_slot s _ _ hl)
  · intro off t
    have ht : t = { s with busReply := .written, qt := s.qt.set n (s.qt[n].set i (v.setWidth 8)) } :=
      hostAccess_write_qt hidle n i v
    have htidle : t.busy = false := by rw [ht]; exact hidle
    refine ⟨?_, fun off' ha hne => ?_⟩
    · rw [hostAccess_read_idle htidle (by simp only [off]; omega), locate_qt, ht]
      simp [State.readIdle]
    · have hl : locate off' ≠ .qt n i := fun hl => hne (Fin.ext (eq_of_locate_qt ha hl))
      rw [hostAccess_read_idle htidle ha, hostAccess_read_idle hidle ha, ht]
      exact congrArg BusReply.data (readIdle_set_qt s _ hl)
  · have hlds : hostLds n v = (slotWrites n v (List.finRange 64)).map .host := by
      rw [hostLds, slotWrites, List.map_map]
      rfl
    rw [hlds] at hturns
    have hrun := run_hostAccesses _ hturns
    rw [hall, foldl_slotWrites hidle, ← hall, foldl_set_finRange, foldl_set_finRange] at hrun
    have hmarks : (Vector.ofFn fun _ : Fin 64 => true) = Vector.replicate 64 true := Vector.ext fun j hj => by simp
    rw [hmarks] at hrun
    refine ⟨_, by simpa [slotWrites, State.withTurns] using hrun, ?_, rfl⟩
    simp [State.slotWritten_iff]
  · have hldq : hostLdq n v = (tableWrites n v (List.finRange 64)).map .host := by
      rw [hostLdq, tableWrites, List.map_map]
      rfl
    rw [hldq] at hturns
    have hrun := run_hostAccesses _ hturns
    rw [hall, foldl_tableWrites hidle, ← hall, foldl_set_finRange] at hrun
    simpa [tableWrites, State.withTurns] using hrun

/-- Settles O18, turn by turn: the engine only sets `DONE`, and the host reaches `IE` and `DONE` by two registers. -/
theorem interruptHeldUntilCleared : Obligations.InterruptHeldUntilCleared := by
  unfold Obligations.InterruptHeldUntilCleared
  constructor
  · intro s
    obtain ⟨-, -, hctrl, -⟩ := locate_registers
    rw [irq_iff, hctrl, s.statusWord_getLsbD 1, State.readIdle]
    cases s.ctrlIE <;> simp
  · intro s t hirq hstep hlow
    have hkept (h : t.irq = true) : False := Bool.noConfusion (hlow.symm.trans h)
    cases hturns : s.turns with
    | nil => exact (hkept (engineTurn_irq ((step_of_nil hturns).symm.trans hstep) hirq)).elim
    | cons turn rest =>
        rw [step_of_cons hturns] at hstep
        refine ⟨rest, ?_⟩
        cases turn with
        | engine => exact (hkept (engineTurn_irq hstep hirq)).elim
        | host a =>
            cases hstep
            obtain hsame | ⟨off, v, hoff, rfl⟩ := hostAccess_irq { s with turns := rest } a
            · exact (hkept (hsame.trans hirq)).elim
            · exact .inr ⟨off, v, hoff, .inl rfl⟩
        | both a =>
            obtain hsame | ⟨off, v, hoff, rfl⟩ := hostAccess_irq { s with turns := rest } a
            · exact (hkept (engineTurn_irq hstep (hsame.trans hirq))).elim
            · exact .inr ⟨off, v, hoff, .inr rfl⟩
        | wait =>
            cases hstep
            rw [hostPoll_eq] at hkept
            exact (hkept hirq).elim
        | reset => exact .inl rfl
        | freshSink =>
            cases hstep
            exact (hkept hirq).elim

/-- Settles O56, turn by turn: bytes are only added one at a time, by `offer`. -/
theorem streamBookkeeping : Obligations.StreamBookkeeping := by
  unfold Obligations.StreamBookkeeping
  have hstep {s t : State} (h : step s = .next t) :
      (s.counted → t.counted) ∧ ((∀ rest, s.turns ≠ .freshSink :: rest) → s.sinkHolds <+: t.sinkHolds) := by
    have grown {u : State} (hu : StreamGrows s u) :
        (s.counted → u.counted) ∧ ((∀ rest, s.turns ≠ .freshSink :: rest) → s.sinkHolds <+: u.sinkHolds) :=
      ⟨hu.1, fun _ => hu.2⟩
    cases hturns : s.turns with
    | nil => exact hturns ▸ grown (engineTurn_streamGrows ((step_of_nil hturns).symm.trans h))
    | cons turn rest =>
        rw [← hturns]
        rw [step_of_cons hturns] at h
        have hstart : StreamGrows s { s with turns := rest } := streamGrows_of_eq rfl rfl rfl
        cases turn with
        | engine => exact grown (hstart.trans (engineTurn_streamGrows h))
        | host a => cases h; exact grown (hstart.trans (hostAccess_streamGrows _ a))
        | both a => exact grown (hstart.trans ((hostAccess_streamGrows _ a).trans (engineTurn_streamGrows h)))
        | wait => cases h; rw [hostPoll_eq]; exact grown (streamGrows_of_eq rfl rfl rfl)
        | reset => cases h; exact ⟨fun _ => rfl, fun _ => List.prefix_refl _⟩
        | freshSink => cases h; exact ⟨id, fun hno => absurd hturns (hno rest)⟩
  exact ⟨rfl, fun s t hcount h => (hstep h).1 hcount, fun s t h => (hstep h).2⟩

/-- Settles O58, turn by turn. -/
theorem sessionTablesAreLatched : Obligations.SessionTablesAreLatched := by
  unfold Obligations.SessionTablesAreLatched
  intro s t hstep hne
  cases hturns : s.turns with
  | nil =>
      have hmove := (step_of_nil hturns).symm.trans hstep
      obtain ⟨he, expl, mode, hd⟩ := engineTurn_sqt hmove hne
      exact .inr ⟨s, expl, mode, he, hd, hmove, .inl rfl⟩
  | cons turn rest =>
      rw [step_of_cons hturns] at hstep
      cases turn with
      | engine =>
          obtain ⟨he, expl, mode, hd⟩ := engineTurn_sqt hstep hne
          exact .inr ⟨_, expl, mode, he, hd, hstep, .inr ⟨rest, .inl ⟨rfl, rfl⟩⟩⟩
      | both a =>
          have hacc := hostAccess_sqt { s with turns := rest } a
          obtain ⟨he, expl, mode, hd⟩ := engineTurn_sqt hstep fun h => hne (h.trans hacc)
          exact .inr ⟨_, expl, mode, he, hd, hstep, .inr ⟨rest, .inr ⟨a, rfl, rfl⟩⟩⟩
      | reset => exact .inl ⟨rest, rfl⟩
      | host a => cases hstep; exact absurd (hostAccess_sqt _ a) hne
      | wait => cases hstep; rw [hostPoll_eq] at hne; exact absurd rfl hne
      | freshSink => cases hstep; exact absurd rfl hne

end

section
/-! SUPPORT. The commands outside the encoder (spec/40_transform.md, spec/41_quantization.md, spec/42_resampler.md): which way each
goes once its operands are in range, and the values it writes. -/

namespace Sys2Proof.Machine

/-! ### Operands in range -/

/-- The first of four slots that are in range (R86). -/
abbrev firstSlot (b : Fin 13) : OpField := ⟨b.val, by omega⟩

/-- A table operand in range (R86). -/
abbrev tableField (t : Fin 2) : OpField := ⟨t.val, by omega⟩

@[simp] theorem fourSlotsOk_firstSlot (b : Fin 13) : fourSlotsOk (firstSlot b) = true := (fourSlotsOk_iff _).2 b.isLt

@[simp] theorem tableOk_tableField (t : Fin 2) : tableOk (tableField t) = true := (tableOk_iff _).2 t.isLt

@[simp] theorem tableIndex_tableField (t : Fin 2) : tableIndex (tableField t) = t := Fin.ext (Nat.mod_eq_of_lt t.isLt)

theorem slotPlus_firstSlot (b : Fin 13) (k : Fin 4) : slotPlus (firstSlot b) k = ⟨b.val + k.val, by omega⟩ :=
  Fin.ext (slotPlus_val b.isLt k)

theorem samplesOk_eq_false_iff (b : Block) : samplesOk b = false ↔ ¬ Samples b := decide_eq_false_iff_not

/-! ### Which way each command goes -/

section
variable {st : State} (d : OpField) {s : OpField}

theorem exec_fdct_of_samples (hw : st.slotWritten s = true) (hs : Samples (st.slot s)) :
    exec (.fdct d s) st = .next ((st.setSlot d (fdctBlock (st.slot s))).complete .none) := by
  simp [exec, execFdct, hw, (samplesOk_iff _).2 hs]

theorem exec_fdct_of_not_samples (hw : st.slotWritten s = true) (hs : ¬ Samples (st.slot s)) :
    exec (.fdct d s) st = .next (st.complete .dataRange) := by
  simp [exec, execFdct, hw, (samplesOk_eq_false_iff _).2 hs]

theorem exec_fdct_of_unwritten (hw : st.slotWritten s = false) :
    exec (.fdct d s) st = .next (st.freeChoice (·.complete .dataRange) fun u => (u.setFreeSlot d).complete .none) := by
  simp [exec, execFdct, hw]

theorem exec_idct_of_written (hw : st.slotWritten s = true) :
    exec (.idct d s) st = .next ((st.setSlot d (idctBlock (st.slot s))).complete .none) := by
  simp [exec, execIdct, hw]

theorem exec_idct_of_unwritten (hw : st.slotWritten s = false) :
    exec (.idct d s) st = .next ((st.setFreeSlot d).complete .none) := by
  simp [exec, execIdct, hw]

theorem exec_quant_of_zero {t : Fin 2} (hq : ∃ i : Fin 64, st.qt[t][i] = 0) :
    exec (.quant d s (tableField t)) st = .next (st.complete .configuration) := by
  have hq : factorsOk st.qt[t.val] = false := decide_eq_false_iff_not.2 fun h => hq.elim h
  simp [exec, execQuant, hq]

section
variable {t : Fin 2} (hq : ∀ i : Fin 64, st.qt[t][i] ≠ 0)
include hq

theorem exec_quant_of_written (hw : st.slotWritten s = true) :
    exec (.quant d s (tableField t)) st = .next ((st.setSlot d (quantBlock (st.slot s) st.qt[t])).complete .none) := by
  simp [exec, execQuant, hw, (factorsOk_iff st.qt[t.val]).2 hq]

theorem exec_quant_of_unwritten (hw : st.slotWritten s = false) :
    exec (.quant d s (tableField t)) st = .next ((st.setFreeSlot d).complete .none) := by
  simp [exec, execQuant, hw, (factorsOk_iff st.qt[t.val]).2 hq]

end

theorem exec_ups_of_samples (b : Fin 13) (hw : st.slotWritten s = true) (hs : Samples (st.slot s)) :
    exec (.ups (firstSlot b) s) st = .next ((st.setQuadrants (firstSlot b) (upQuadrants (st.slot s))).complete .none) := by
  simp [exec, execUps, hw, (samplesOk_iff _).2 hs]

theorem exec_ups_of_not_samples (b : Fin 13) (hw : st.slotWritten s = true) (hs : ¬ Samples (st.slot s)) :
    exec (.ups (firstSlot b) s) st = .next (st.complete .dataRange) := by
  simp [exec, execUps, hw, (samplesOk_eq_false_iff _).2 hs]

theorem exec_ups_of_unwritten (b : Fin 13) (hw : st.slotWritten s = false) :
    exec (.ups (firstSlot b) s) st =
      .next (st.freeChoice (·.complete .dataRange) fun u => (u.setFreeQuadrants (firstSlot b)).complete .none) := by
  simp [exec, execUps, hw]

variable {b : Fin 13}

theorem quadrantsWritten_iff : st.quadrantsWritten (firstSlot b) = true ↔
    ∀ k : Fin 4, st.slotWritten ⟨b.val + k.val, by omega⟩ = true := by
  rw [State.quadrantsWritten, decide_eq_true_iff]
  exact forall_congr' fun k => by rw [slotPlus_firstSlot]

theorem quadrantsWritten_eq_false (hw : ∃ k : Fin 4, st.slotWritten ⟨b.val + k.val, by omega⟩ = false) :
    st.quadrantsWritten (firstSlot b) = false := by
  obtain ⟨k, hk⟩ := hw
  exact Bool.eq_false_iff.2 fun h => Bool.noConfusion (hk.symm.trans (quadrantsWritten_iff.1 h k))

/-- Every quadrant is a block of samples where the four slots hold samples. -/
theorem quadrants_samplesOk_iff : (st.quadrants (firstSlot b)).toList.all samplesOk = true ↔
    ∀ k : Fin 4, Samples (st.slots[b.val + k.val]'(by omega)) := by
  simp only [State.quadrants, Vector.toList_ofFn, List.all_eq_true, List.forall_mem_ofFn_iff, samplesOk_iff]
  exact forall_congr' fun k => by rw [slotPlus_firstSlot]; rfl

theorem exec_downs_of_samples (hw : ∀ k : Fin 4, st.slotWritten ⟨b.val + k.val, by omega⟩ = true)
    (hs : ∀ k : Fin 4, Samples (st.slots[b.val + k.val]'(by omega))) :
    exec (.downs d (firstSlot b)) st = .next ((st.setSlot d (downBlock (st.quadrants (firstSlot b)))).complete .none) := by
  rw [exec, execDowns, quadrantsWritten_iff.2 hw, quadrants_samplesOk_iff.2 hs]
  simp

theorem exec_downs_of_not_samples (hw : ∀ k : Fin 4, st.slotWritten ⟨b.val + k.val, by omega⟩ = true)
    (hs : ∃ k : Fin 4, ¬ Samples (st.slots[b.val + k.val]'(by omega))) :
    exec (.downs d (firstSlot b)) st = .next (st.complete .dataRange) := by
  have hs : (st.quadrants (firstSlot b)).toList.all samplesOk = false :=
    Bool.eq_false_iff.2 fun h => hs.elim fun k hk => hk (quadrants_samplesOk_iff.1 h k)
  rw [exec, execDowns, quadrantsWritten_iff.2 hw, hs]
  simp

theorem exec_downs_of_unwritten (hw : ∃ k : Fin 4, st.slotWritten ⟨b.val + k.val, by omega⟩ = false) :
    exec (.downs d (firstSlot b)) st =
      .next (st.freeChoice (·.complete .dataRange) fun u => (u.setFreeSlot d).complete .none) := by
  rw [exec, execDowns, quadrantsWritten_eq_false hw]
  simp

end

/-! ### The table builders -/

/-- The base selector of `QBUILD` in range (R86). -/
abbrev baseField (bsel : Fin 3) : OpField := ⟨bsel.val, by omega⟩

@[simp] theorem baseSelectorOk_baseField (bsel : Fin 3) : baseSelectorOk (baseField bsel) = true := by
  revert bsel; decide

theorem baseField_eq_two_iff (bsel : Fin 3) : baseField bsel = 2 ↔ bsel = 2 := by
  revert bsel; decide

section
variable {st : State} (t : Fin 2) (s : OpField) {q : Imm}

theorem qualityOk_iff : qualityOk q = true ↔ 1 ≤ q.val ∧ q.val ≤ 100 := decide_eq_true_iff

theorem qualityOk_eq_false (h : q.val = 0 ∨ 100 < q.val) : qualityOk q = false :=
  decide_eq_false_iff_not.2 (by omega)

theorem exec_qbuild_of_quality (bsel : Fin 3) (h : q.val = 0 ∨ 100 < q.val) :
    exec (.qbuild (tableField t) s (baseField bsel) q) st = .next (st.complete .configuration) := by
  simp [exec, execQbuild, qualityOk_eq_false h]

theorem exec_qbuildp_of_quality (h : q.val = 0 ∨ 100 < q.val) : exec (.qbuildp q) st = .next (st.complete .configuration) := by
  simp [exec, execQbuildp, qualityOk_eq_false h]

section
variable (hq : 1 ≤ q.val ∧ q.val ≤ 100)
include hq

theorem exec_qbuild_of_base {bsel : Fin 3}
    (hb : bsel = 2 → st.slotWritten s = true ∧ ∀ i : Fin 64, 1 ≤ (st.slots[s][i]).toInt ∧ (st.slots[s][i]).toInt ≤ 255) :
    exec (.qbuild (tableField t) s (baseField bsel) q) st =
      .next ((st.setQt t (buildTable (baseTable (baseField bsel) (st.slot s)) q)).complete .none) := by
  have hwritten : (baseField bsel == 2 && !st.slotWritten s) = false := by
    by_cases h : bsel = 2
    · simp [(hb h).1]
    · simp [baseField_eq_two_iff, h]
  have hentries : (baseField bsel == 2 && !baseEntriesOk (st.slot s)) = false := by
    by_cases h : bsel = 2
    · simp [(baseEntriesOk_iff (st.slot s)).2 (hb h).2]
    · simp [baseField_eq_two_iff, h]
  rw [exec, execQbuild, hwritten, hentries, qualityOk_iff.2 hq]
  simp

theorem exec_qbuild_of_bad_entry (hw : st.slotWritten s = true)
    (hb : ∃ i : Fin 64, (st.slots[s][i]).toInt < 1 ∨ 255 < (st.slots[s][i]).toInt) :
    exec (.qbuild (tableField t) s 2 q) st = .next (st.complete .configuration) := by
  have hentries : baseEntriesOk (st.slot s) = false := by
    obtain ⟨i, hi⟩ := hb
    exact decide_eq_false_iff_not.2 fun h => by
      obtain ⟨hlo, hhi⟩ := h i
      exact hi.elim (not_lt.2 hlo) (not_lt.2 hhi)
  have hsel : baseSelectorOk 2 = true := rfl
  simp [exec, execQbuild, hw, hentries, hsel, qualityOk_iff.2 hq]

theorem exec_qbuild_of_unwritten (hw : st.slotWritten s = false) :
    exec (.qbuild (tableField t) s 2 q) st =
      .next (st.freeChoice (·.complete .configuration) fun u => (u.setFreeQt t).complete .none) := by
  have hsel : baseSelectorOk 2 = true := rfl
  simp [exec, execQbuild, hw, hsel, qualityOk_iff.2 hq]

theorem exec_qbuildp_of_quality_ok :
    exec (.qbuildp q) st = .next (((st.setQt 0 (buildTable baseL q)).setQt 1 (buildTable baseC q)).complete .none) := by
  simp [exec, execQbuildp, qualityOk_iff.2 hq]

end

end

/-! ### The blocks they write -/

/-- A block's entry by row and column (R14). -/
theorem getElem_raster (b : Block) (j : Fin 64) : b[8 * (row j).val + (col j).val] = b[j] := by
  simp only [eight_row_add_col]
  rfl

theorem fdctAcc_eq (b : Block) (i : Fin 64) : fdctAcc b i =
    ∑ y : Fin 8, ∑ x : Fin 8, ((b[8 * y.val + x.val]).toInt - 128) * basis (col i) x * basis (row i) y := by
  rw [fdctAcc, sum64_eq_sum, ← sum_raster fun y x : Fin 8 => ((b[8 * y.val + x.val]).toInt - 128) * basis (col i) x * basis (row i) y]
  simp only [getElem_raster]

theorem idctAcc_eq (b : Block) (i : Fin 64) : idctAcc b i = 128 * dctScale +
    ∑ v : Fin 8, ∑ u : Fin 8, (b[8 * v.val + u.val]).toInt * basis u (col i) * basis v (row i) := by
  rw [idctAcc, sum64_eq_sum, ← sum_raster fun v u : Fin 8 => (b[8 * v.val + u.val]).toInt * basis u (col i) * basis v (row i)]
  simp only [getElem_raster]

theorem buildTable_eq (B : Vector Nat 64) (q : Nat) :
    buildTable B q = Vector.ofFn fun i => BitVec.ofNat 8 (tableEntry B[i] q) := by
  refine Vector.ext fun j hj => ?_
  simp [buildTable]

/-- The entry of the base table a selector names. -/
theorem baseTable_getElem (bsel : Fin 3) (b : Block) (i : Fin 64) :
    (baseTable (baseField bsel) b)[i] = if bsel = 0 then baseL[i] else if bsel = 1 then baseC[i] else (b[i]).toInt.toNat := by
  match bsel with
  | 0 => rfl
  | 1 => rfl
  | 2 => simp [baseTable, baseField]

/-- The sample of the super-block at slot `b` (R150). -/
theorem superSample_quadrants (st : State) (b : Fin 13) (X Y : Fin 16) : superSample (st.quadrants (firstSlot b)) X Y =
    ((st.slots[b.val + (2 * (Y.val / 8) + X.val / 8)]'(by omega))[8 * (Y.val % 8) + X.val % 8]'(by omega)).toInt := by
  have hslot := slotPlus_val (b := firstSlot b) b.isLt ⟨2 * (Y.val / 8) + X.val / 8, by omega⟩
  simp [superSample, State.quadrants, State.slot, hslot]

/-- Four slots set one after the other, as one update of each RAM. -/
theorem setQuadrants_eq (st : State) (b : Fin 13) (q : Vector Block 4) : st.setQuadrants (firstSlot b) q = { st with
    slots := Vector.ofFn fun m =>
      if h : b.val ≤ m.val ∧ m.val ≤ b.val + 3 then q[m.val - b.val]'(by omega) else st.slots[m]
    written := Vector.ofFn fun m => if b.val ≤ m.val ∧ m.val ≤ b.val + 3 then Vector.replicate 64 true else st.written[m] } := by
  have h0 : (slotPlus (firstSlot b) 0).val = b.val := slotPlus_val b.isLt 0
  have h1 : (slotPlus (firstSlot b) 1).val = b.val + 1 := slotPlus_val b.isLt 1
  have h2 : (slotPlus (firstSlot b) 2).val = b.val + 2 := slotPlus_val b.isLt 2
  have h3 : (slotPlus (firstSlot b) 3).val = b.val + 3 := slotPlus_val b.isLt 3
  have hk (m : Nat) : (b.val ≤ m ∧ m ≤ b.val + 3) ↔ m = b.val ∨ m = b.val + 1 ∨ m = b.val + 2 ∨ m = b.val + 3 := by omega
  have hslots : (st.setQuadrants (firstSlot b) q).slots = Vector.ofFn fun m : Fin 16 =>
      if h : b.val ≤ m.val ∧ m.val ≤ b.val + 3 then q[m.val - b.val]'(by omega) else st.slots[m] := by
    refine Vector.ext fun m hm => ?_
    simp only [State.setQuadrants, State.setSlot_slots, Vector.getElem_set, h0, h1, h2, h3, Vector.getElem_ofFn]
    split_ifs <;> grind
  have hwritten : (st.setQuadrants (firstSlot b) q).written = Vector.ofFn fun m : Fin 16 =>
      if b.val ≤ m.val ∧ m.val ≤ b.val + 3 then Vector.replicate 64 true else st.written[m] := by
    refine Vector.ext fun m hm => ?_
    simp only [State.setQuadrants, State.setSlot_written, Vector.getElem_set, h0, h1, h2, h3, Vector.getElem_ofFn]
    split_ifs <;> grind
  rw [← hslots, ← hwritten]
  rfl

/-- A quadrant of the upsampled super-block (R154, R155). -/
theorem upQuadrants_getElem (p : Block) {k : Nat} (hk : k < 4) : (upQuadrants p)[k] = Vector.ofFn fun i => BitVec.ofInt 16
    (upSample p ⟨(8 * (k % 2) + i.val % 8) % 16, by omega⟩ ⟨(8 * (k / 2) + i.val / 8) % 16, by omega⟩) := by
  have hx (i : Fin 64) : (8 * (k % 2) + i.val % 8) % 16 = 8 * (k % 2) + i.val % 8 := by omega
  have hy (i : Fin 64) : (8 * (k / 2) + i.val / 8) % 16 = 8 * (k / 2) + i.val / 8 := by omega
  simp only [upQuadrants, Vector.getElem_ofFn, hx, hy]
  rfl

/-- Two tables set one after the other are both tables. -/
theorem set_zero_set_one (v : Vector Table 2) (a b : Table) : (v.set 0 a).set 1 b = #v[a, b] := by
  refine Vector.ext fun j hj => ?_
  match j, hj with
  | 0, _ => simp
  | 1, _ => simp

/-! ### Block commands in an open session that lacks an MCU (R180, R185) -/

theorem imageComplete_of_lt {st : State} (hcount : st.mcuCount.toNat < st.mcuTotal.toNat) : st.imageComplete = false :=
  decide_eq_false_iff_not.2 (not_le.2 hcount)

section
variable {st : State} {a b c : OpField} (hready : st.encState = .ready) (hcount : st.mcuCount.toNat < st.mcuTotal.toNat)
include hready hcount

theorem exec_encblk1_of_prepared (hmode : st.encMode = .gray) (hw : st.slotWritten a = true) {p : Prepared}
    (hp : prepareBlock (st.slot a) st.sqt[0] st.pred0 = some p) :
    exec (.encblk1 a) st = .next (st.emitBlocks (codeBlock p .luma) (BitVec.ofInt 16 p.dc) st.pred1 st.pred2) := by
  simp [exec, execEncblk1, hready, hmode, hw, imageComplete_of_lt hcount, hp]

theorem exec_encblk1_of_not_prepared (hmode : st.encMode = .gray) (hw : st.slotWritten a = true)
    (hp : prepareBlock (st.slot a) st.sqt[0] st.pred0 = none) :
    exec (.encblk1 a) st = .next (st.failEncoder .dataRange) := by
  simp [exec, execEncblk1, hready, hmode, hw, imageComplete_of_lt hcount, hp]

theorem exec_encblk1_of_unwritten (hmode : st.encMode = .gray) (hw : st.slotWritten a = false) :
    exec (.encblk1 a) st = .next (st.freeChoice (·.failEncoder .dataRange) (·.emitFree lumaBits false)) := by
  simp [exec, execEncblk1, hready, hmode, hw, imageComplete_of_lt hcount]

section
variable (hmode : st.encMode = .ycc444) (ha : st.slotWritten a = true) (hb : st.slotWritten b = true) (hc : st.slotWritten c = true)
include hmode ha hb hc

theorem exec_encblk3_of_prepared {pY pB pR : Prepared} (hY : prepareBlock (st.slot a) st.sqt[0] st.pred0 = some pY)
    (hB : prepareBlock (st.slot b) st.sqt[1] st.pred1 = some pB) (hR : prepareBlock (st.slot c) st.sqt[1] st.pred2 = some pR) :
    exec (.encblk3 a b c) st = .next (st.emitBlocks (codeBlock pY .luma ++ codeBlock pB .chroma ++ codeBlock pR .chroma)
      (BitVec.ofInt 16 pY.dc) (BitVec.ofInt 16 pB.dc) (BitVec.ofInt 16 pR.dc)) := by
  simp [exec, execEncblk3, hready, hmode, ha, hb, hc, imageComplete_of_lt hcount, hY, hB, hR]

theorem exec_encblk3_of_not_prepared (hp : prepareBlock (st.slot a) st.sqt[0] st.pred0 = none ∨
    prepareBlock (st.slot b) st.sqt[1] st.pred1 = none ∨ prepareBlock (st.slot c) st.sqt[1] st.pred2 = none) :
    exec (.encblk3 a b c) st = .next (st.failEncoder .dataRange) := by
  simp only [exec, execEncblk3, slotOk_eq, hready, hmode, ha, hb, hc, imageComplete_of_lt hcount]
  generalize prepareBlock (st.slot a) st.sqt[0] st.pred0 = oY, prepareBlock (st.slot b) st.sqt[1] st.pred1 = oB,
    prepareBlock (st.slot c) st.sqt[1] st.pred2 = oR at hp
  obtain rfl | rfl | rfl := hp
  · rfl
  · cases oY <;> rfl
  · cases oY <;> cases oB <;> rfl

end

theorem exec_encblk3_of_unwritten (hmode : st.encMode = .ycc444)
    (hw : (st.slotWritten a && st.slotWritten b && st.slotWritten c) = false) :
    exec (.encblk3 a b c) st =
      .next (st.freeChoice (·.failEncoder .dataRange) (·.emitFree (lumaBits + 2 * chromaBits) true)) := by
  rw [exec, execEncblk3, hw, imageComplete_of_lt hcount, hready, hmode]
  simp

end

/-! ### Unwritten slots (R283) -/

/-- A free choice fails after some draws, or goes on. -/
theorem freeChoice_fails_or (st : State) (code : ErrorCode) (f : State → State) :
    (∃ n, st.freeChoice (·.complete code) f = ({ st with draws := n } : State).complete code) ∨
      st.freeChoice (·.complete code) f = f (st.drawn 1) :=
  (st.freeChoice_cases (·.complete code) f).imp_left fun h => ⟨st.draws + 1, h⟩

end Sys2Proof.Machine

/-! ### The obligations -/

open Sys2Proof Sys2Proof.Machine

/-- Settles O23. -/
theorem fdctComputes : Obligations.FdctComputes := by
  unfold Obligations.FdctComputes
  intro d s st hw hs
  rw [exec_fdct_of_samples d hw hs, complete_none, fdctBlock]
  simp only [fdctAcc_eq]
  rfl

/-- Settles O24. -/
theorem idctComputes : Obligations.IdctComputes := by
  unfold Obligations.IdctComputes
  intro d s st hw
  rw [exec_idct_of_written d hw, complete_none, idctBlock]
  simp only [idctAcc_eq]
  rfl

/-- Settles O34. -/
theorem quantComputes : Obligations.QuantComputes := by
  unfold Obligations.QuantComputes
  intro d s t st hw hq
  rw [exec_quant_of_written d hq hw, complete_none]
  rfl

/-- Settles O35. -/
theorem downsComputes : Obligations.DownsComputes := by
  unfold Obligations.DownsComputes
  intro d b st hw hs P
  rw [exec_downs_of_samples d hw hs, complete_none, downBlock]
  simp only [downSample, superSample_quadrants]
  rfl

/-- Settles O36: the four slots are set at once, whichever of them the source is. -/
theorem upsComputes : Obligations.UpsComputes := by
  unfold Obligations.UpsComputes
  intro b s st hw hs p near next U
  rw [exec_ups_of_samples b hw hs, complete_none, setQuadrants_eq]
  simp only [upQuadrants_getElem, dite_eq_ite, U, one_mul]
  rfl

/-- Settles O30: the base selector picks the base table, and `QBUILDP` is two builds. -/
theorem tableBuildersCompute : Obligations.TableBuildersCompute := by
  unfold Obligations.TableBuildersCompute
  refine ⟨fun t s bsel q st hlo hhi hb => ?_, fun q st hlo hhi => ?_, rfl, rfl⟩
  · rw [exec_qbuild_of_base t s ⟨hlo, hhi⟩ hb, complete_none, buildTable_eq]
    simp only [baseTable_getElem]
    rfl
  · rw [exec_qbuildp_of_quality_ok ⟨hlo, hhi⟩, complete_none, buildTable_eq, buildTable_eq]
    simp only [State.setQt_qt, Fin.val_zero, Fin.val_one, set_zero_set_one]
    rfl

/-- Settles O31: each check on the data comes before anything is written. -/
theorem operandDataErrors : Obligations.OperandDataErrors := by
  unfold Obligations.OperandDataErrors
  have hconfig (st : State) : (.next (st.complete .configuration) : Host.Outcome State Fault Refusal) = _ :=
    congrArg _ (complete_of_error st (by decide))
  have hrange (st : State) : (.next (st.complete .dataRange) : Host.Outcome State Fault Refusal) = _ :=
    congrArg _ (complete_of_error st (by decide))
  refine ⟨fun t s bsel q st h => (exec_qbuild_of_quality t s bsel h).trans (hconfig st), fun t s q st hw hb => ?_,
    fun q st h => (exec_qbuildp_of_quality h).trans (hconfig st), fun d s t st h => (exec_quant_of_zero d h).trans (hconfig st),
    fun d s st hw hs => (exec_fdct_of_not_samples d hw hs).trans (hrange st),
    fun b s st hw hs => (exec_ups_of_not_samples b hw hs).trans (hrange st),
    fun d b st hw hs => (exec_downs_of_not_samples d hw hs).trans (hrange st)⟩
  by_cases hq : 1 ≤ q.val ∧ q.val ≤ 100
  · exact (exec_qbuild_of_bad_entry t s hq hw hb).trans (hconfig st)
  · exact (exec_qbuild_of_quality t s 2 (by omega)).trans (hconfig st)

/-- Settles O46, by the two outcomes of each free choice. -/
theorem unwrittenSlots : Obligations.UnwrittenSlots := by
  unfold Obligations.UnwrittenSlots
  intro ends all slotSet fails
  have hset (st : State) (d : OpField) (k : Nat) : slotSet st d (((st.drawn k).setFreeSlot d).complete .none) :=
    ⟨(st.drawn k).freeBlock 0, st.draws + k + 64, rfl⟩
  have hslot (st : State) (d : OpField) (code : ErrorCode) :
      let t := st.freeChoice (·.complete code) fun u => (u.setFreeSlot d).complete .none
      slotSet st d t ∨ fails st code t := by
    intro t
    obtain ⟨n, h⟩ | h := freeChoice_fails_or st code fun u => (u.setFreeSlot d).complete .none
    · exact .inr ⟨n, h⟩
    · exact .inl ((hset st d 1).imp fun _ ⟨n, hn⟩ => ⟨n, h.trans hn⟩)
  refine ⟨fun d s st hw => ⟨⟨_, exec_idct_of_unwritten d hw, hset st d 0⟩, ⟨_, exec_fdct_of_unwritten d hw, hslot st d _⟩,
      fun n hq => ⟨_, exec_quant_of_unwritten d hq hw, hset st d 0⟩⟩,
    fun d b st hw => ⟨_, exec_downs_of_unwritten d hw, hslot st d _⟩, fun b s st hw => ⟨_, exec_ups_of_unwritten b hw, ?_⟩,
    fun n s q st hlo hhi hw => ⟨_, exec_qbuild_of_unwritten n s ⟨hlo, hhi⟩ hw, ?_⟩, ?_, ?_⟩
  · obtain ⟨n, h⟩ | h := freeChoice_fails_or st .dataRange fun u => (u.setFreeQuadrants (firstSlot b)).complete .none
    · exact .inl ⟨n, h⟩
    · refine .inr ⟨Vector.ofFn fun k => (st.drawn 1).freeBlock (64 * k.val), st.draws + 1 + 256, h.trans ?_⟩
      rw [State.setFreeQuadrants, setQuadrants_eq]
      rfl
  · obtain ⟨k, h⟩ | h := freeChoice_fails_or st .configuration fun u => (u.setFreeQt n).complete .none
    · exact .inl ⟨k, h⟩
    · exact .inr ⟨_, st.draws + 1 + 64, h⟩
  · intro a st hready hmode hcount hw
    refine ⟨_, exec_encblk1_of_unwritten hready hcount hmode hw, ?_⟩
    obtain h | h := st.freeChoice_cases (·.failEncoder .dataRange) (·.emitFree lumaBits false)
    · exact .inl ⟨st.draws + 1, h⟩
    · exact .inr ⟨_, _, st.draws + 1 + 4, bitLength_freeCodes_le _ _, h⟩
  · intro a b c st hready hmode hcount hw
    refine ⟨_, exec_encblk3_of_unwritten hready hcount hmode hw, ?_⟩
    obtain h | h := st.freeChoice_cases (·.failEncoder .dataRange) (·.emitFree (lumaBits + 2 * chromaBits) true)
    · exact .inl ⟨st.draws + 1, h⟩
    · exact .inr ⟨_, _, _, _, st.draws + 1 + 4, bitLength_freeCodes_le _ _, h⟩

end

section
/-! SUPPORT. The encoder commands (spec/43_encoder.md): which way each goes, and what it emits and writes with a sink that accepts. -/

namespace Sys2Proof.Machine

/-! ### `ENCRST` -/

/-- The `MODE` field of a colour mode (R82). -/
def modeField : ColorMode → Fin 4
  | .gray => 0
  | .ycc444 => 1

theorem colorMode_eq_some_iff (mode : Fin 4) (m : ColorMode) : colorMode mode = some m ↔ mode = modeField m := by
  revert mode
  cases m <;> decide

theorem exec_encrst_of_legal {s : State} {expl : Bool} {mode : Fin 4} {m : ColorMode} (hm : colorMode mode = some m)
    (hw : dimensionOk s.sampledWidth = true) (hh : dimensionOk s.sampledHeight = true)
    (hq : expl = true → explicitTablesOk m s.qt = true) :
    exec (.encrst expl mode) s = .next
      ((({ s with incomplete := false } : State).initSession m expl).offer .openSession
        (({ s with incomplete := false } : State).initSession m expl).sessionHeader) := by
  have hq : (expl && !explicitTablesOk m s.qt) = false := by
    cases expl with
    | false => rfl
    | true => simp [hq rfl]
  simp [exec, execEncrst, hm, hw, hh, hq]

theorem sessionTables_eq (expl : Bool) (qt : Vector Table 2) : sessionTables expl qt = if expl then qt else
    #v[Vector.ofFn fun i => BitVec.ofNat 8 (tableEntry baseL[i] 75), Vector.ofFn fun i => BitVec.ofNat 8 (tableEntry baseC[i] 75)] := by
  simp only [sessionTables, buildTable_eq, Config.defaultQuality]

/-! ### Preparing a block (R176) -/

theorem zigzag_toList (b : Block) (t : Table) :
    (zigzag b t).toList = (List.finRange 64).map fun k => quantize (b[zz[k]]).toInt (t[zz[k]]).toNat := by
  refine List.ext_getElem (by simp) fun k _ _ => ?_
  simp [zigzag]

theorem zigzag_zero (b : Block) (t : Table) : (zigzag b t)[0] = quantize (b[0]).toInt (t[0]).toNat := by
  simp [zigzag, zz]

theorem mem_tail_finRange (k : Fin 64) : k ∈ (List.finRange 64).tail ↔ k ≠ 0 := by
  revert k; decide

theorem zz_eq_zero_iff (k : Fin 64) : zz[k] = 0 ↔ k = 0 := by
  revert k; decide

/-- The AC values are the entries other than the DC entry, in zig-zag order. -/
theorem forall_ac_iff (b : Block) (t : Table) (P : Int → Prop) : (∀ v ∈ (zigzag b t).toList.tail, P v) ↔
    ∀ i : Fin 64, i ≠ 0 → P (quantize (b[i]).toInt (t[i]).toNat) := by
  rw [zigzag_toList, ← List.map_tail, List.forall_mem_map]
  constructor
  · intro h i hi
    obtain ⟨k, rfl⟩ := zigzagOrder.1 i
    exact h k ((mem_tail_finRange k).2 fun hk => hi ((zz_eq_zero_iff k).2 hk))
  · exact fun h k hk => h zz[k] fun hz => (mem_tail_finRange k).1 hk ((zz_eq_zero_iff k).1 hz)

/-- What keeps baseline coding from representing a block (R176): its DC difference or one of its AC values. -/
def NotCodable (b : Block) (t : Table) (pred : S16) : Prop :=
  11 < category (quantize (b[0]).toInt (t[0]).toNat - pred.toInt) ∨
    ∃ i : Fin 64, i ≠ 0 ∧ 10 < category (quantize (b[i]).toInt (t[i]).toNat)

theorem not_notCodable_iff (b : Block) (t : Table) (pred : S16) : ¬ NotCodable b t pred ↔
    category ((zigzag b t)[0] - pred.toInt) ≤ 11 ∧ ∀ v ∈ (zigzag b t).toList.tail, category v ≤ 10 := by
  rw [forall_ac_iff b t (category · ≤ 10), zigzag_zero]
  simp [NotCodable]

/-- The block as it is prepared where nothing keeps it from being coded (R176). -/
def preparedOf (b : Block) (t : Table) (pred : S16) : Prepared :=
  { dc := (zigzag b t)[0], diff := (zigzag b t)[0] - pred.toInt, ac := (zigzag b t).toList.tail }

theorem prepareBlock_of_codable {b : Block} {t : Table} {pred : S16} (h : ¬ NotCodable b t pred) :
    prepareBlock b t pred = some (preparedOf b t pred) :=
  if_pos ((not_notCodable_iff b t pred).1 h)

theorem preparedOf_dc (b : Block) (t : Table) (pred : S16) :
    (preparedOf b t pred).dc = quantize (b[zz[(0 : Fin 64)]]).toInt (t[zz[(0 : Fin 64)]]).toNat := zigzag_zero b t

/-- Its codes, by zig-zag positions (R177). -/
theorem codeBlock_preparedOf (b : Block) (t : Table) (pred : S16) (c : CodeClass) :
    let z : Fin 64 → Int := fun k => quantize (b[zz[k]]).toInt (t[zz[k]]).toNat
    codeBlock (preparedOf b t pred) c = encodeDC (z 0 - pred.toInt) c ++ encodeAC ((List.finRange 64).map z).tail c := by
  intro z
  have hdc : (zigzag b t)[0] = z 0 := zigzag_zero b t
  rw [codeBlock, preparedOf, hdc, zigzag_toList]

theorem prepareBlock_of_notCodable {b : Block} {t : Table} {pred : S16} (h : NotCodable b t pred) : prepareBlock b t pred = none :=
  if_neg fun hc => (not_notCodable_iff b t pred).2 hc h

/-- The hypotheses of the statements on block commands, which speak of the zig-zag positions. -/
theorem codable_of_zigzag {b : Block} {t : Table} {pred : S16}
    (hdc : category (quantize (b[zz[(0 : Fin 64)]]).toInt (t[zz[(0 : Fin 64)]]).toNat - pred.toInt) ≤ 11)
    (hac : ∀ k : Fin 64, k ≠ 0 → category (quantize (b[zz[k]]).toInt (t[zz[k]]).toNat) ≤ 10) : ¬ NotCodable b t pred := by
  rw [not_notCodable_iff, zigzag_toList, ← List.map_tail, List.forall_mem_map]
  exact ⟨zigzag_zero b t ▸ hdc, fun k hk => hac k ((mem_tail_finRange k).1 hk)⟩

/-! ### The checks of the block commands, in their order (R180, R185, R252) -/

section
variable {s : State} (a b c : OpField)

theorem exec_encblk1_of_not_ready (h : s.encState ≠ .ready) : exec (.encblk1 a) s = .next (s.failEncoder .sequencing) := by
  simp [exec, execEncblk1, h]

theorem exec_encblk3_of_not_ready (h : s.encState ≠ .ready) : exec (.encblk3 a b c) s = .next (s.failEncoder .sequencing) := by
  simp [exec, execEncblk3, h]

section
variable (hready : s.encState = .ready)
include hready

theorem exec_encblk1_of_mode (h : s.encMode ≠ .gray) : exec (.encblk1 a) s = .next (s.failEncoder .configuration) := by
  simp [exec, execEncblk1, hready, h]

theorem exec_encblk3_of_mode (h : s.encMode ≠ .ycc444) : exec (.encblk3 a b c) s = .next (s.failEncoder .configuration) := by
  simp [exec, execEncblk3, hready, h]

theorem exec_encblk1_of_complete (hmode : s.encMode = .gray) (h : s.mcuTotal.toNat ≤ s.mcuCount.toNat) :
    exec (.encblk1 a) s = .next (s.failEncoder .sequencing) := by
  simp [exec, execEncblk1, hready, hmode, State.imageComplete, h]

theorem exec_encblk3_of_complete (hmode : s.encMode = .ycc444) (h : s.mcuTotal.toNat ≤ s.mcuCount.toNat) :
    exec (.encblk3 a b c) s = .next (s.failEncoder .sequencing) := by
  simp [exec, execEncblk3, hready, hmode, State.imageComplete, h]

end

end

/-! ### A sink that accepts -/

/-- A block command under a sink that accepts its bytes. -/
theorem emitBlocks_of_accepts {s : State} {codes : List Bits} {rest : List SinkAnswer} (p0 p1 p2 : S16)
    (h : s.sink = List.replicate (s.packer.putAll codes).out.length .accept ++ rest) :
    s.emitBlocks codes p0 p1 p2 = { s with
      pred0 := p0, pred1 := p1, pred2 := p2, bitacc := (s.packer.putAll codes).acc, bitcnt := (s.packer.putAll codes).cnt
      mcuCount := s.mcuCount + 1, outCount := s.outCount + BitVec.ofNat 32 (s.packer.putAll codes).out.length
      stream := s.stream ++ (s.packer.putAll codes).out, sinkHolds := s.sinkHolds ++ (s.packer.putAll codes).out
      sink := rest, errcode := .none, done := true, engine := .idle } := by
  rw [State.emitBlocks, State.offer_of_accepts h, complete_none]
  rfl

/-- The flushed bits are one byte, the pending bits above 1-bits, and it is stuffed (R225). -/
theorem flushBytes_eq_pad (acc : BitVec 7) (cnt : Fin 8) :
    let pad : Nat := (acc.toNat * 2 ^ (8 - cnt.val) ||| (2 ^ (8 - cnt.val) - 1)) % 256
    flushBytes acc cnt = if cnt = 0 then [] else if pad = 255 then [0xFF, 0x00] else [BitVec.ofNat 8 pad] := by
  intro pad
  have hacc : acc.toNat % 2 ^ 8 = acc.toNat := Nat.mod_eq_of_lt (by omega)
  have hpad : (acc.setWidth 8 <<< (8 - cnt.val)) ||| BitVec.ofNat 8 (2 ^ (8 - cnt.val) - 1) = BitVec.ofNat 8 pad := by
    apply BitVec.eq_of_toNat_eq
    simp only [BitVec.toNat_or, BitVec.toNat_shiftLeft, BitVec.toNat_setWidth, BitVec.toNat_ofNat, Nat.shiftLeft_eq, hacc, pad,
      ← Nat.or_mod_two_pow]
    exact (Nat.mod_mod _ _).symm
  have hff : BitVec.ofNat 8 pad = 0xFF ↔ pad = 255 := by
    rw [← BitVec.toNat_inj, BitVec.toNat_ofNat, Nat.mod_mod]
    rfl
  rw [flushBytes, hpad, stuffed]
  simp only [hff]
  split_ifs <;> simp_all

end Sys2Proof.Machine

/-! ### The obligations -/

open Sys2Proof Sys2Proof.Machine

/-- Settles O40: the header's length does not depend on the tables. -/
theorem encrstOpensSession : Obligations.EncrstOpensSession := by
  unfold Obligations.EncrstOpensSession
  have hmode (m : ColorMode) : colorMode (match m with | .gray => 0 | .ycc444 => 1) = some m := by cases m <;> rfl
  intro expl m s rest w h n hwlo hwhi hhlo hhhi hq hsink sqt
  have hlength : (headerBytes m w h sqt).length = n := (headerBytes_length m w h sqt).trans (by cases m <;> rfl)
  refine ⟨hlength, ?_⟩
  refine (exec_encrst_of_legal (hmode m) ((dimensionOk_iff _).2 ⟨hwlo, hwhi⟩) ((dimensionOk_iff _).2 ⟨hhlo, hhhi⟩) fun he =>
    (explicitTablesOk_iff m s.qt).2 (hq he)).trans ?_
  have hheader : (({ s with incomplete := false } : State).initSession m expl).sessionHeader = headerBytes m w h sqt :=
    congrArg (headerBytes m w h) (sessionTables_eq expl s.qt)
  rw [hheader, State.offer_of_accepts (rest := rest) (by rw [hlength]; exact hsink), complete_none, hlength]
  simp [State.initSession, State.finish, sessionTables_eq, sqt, w, h, mcuTotalOf]

/-- Settles O41. -/
theorem encrstRejectsConfiguration : Obligations.EncrstRejectsConfiguration := by
  unfold Obligations.EncrstRejectsConfiguration
  intro expl mode s hbad
  obtain h | ⟨m, hm, hw, hh, hq, -⟩ := exec_encrst_cases expl mode s
  · rw [h, failEncoder_eq _ (by decide)]
  · obtain ⟨hwlo, hwhi⟩ := (dimensionOk_iff _).1 hw
    obtain ⟨hhlo, hhhi⟩ := (dimensionOk_iff _).1 hh
    have hmode := (colorMode_eq_some_iff mode m).1 hm
    exfalso
    obtain hmode' | h0 | h0 | hlarge | hlarge | ⟨he, hzero⟩ := hbad
    · subst hmode
      cases m <;> exact absurd hmode' (by decide)
    · exact absurd hwlo (by rw [h0]; decide)
    · exact absurd hhlo (by rw [h0]; decide)
    · omega
    · omega
    · obtain ⟨hluma, hchroma⟩ := (explicitTablesOk_iff m s.qt).1 (hq he)
      obtain ⟨i, hi⟩ | ⟨hone, i, hi⟩ := hzero
      · exact hluma i hi
      · have hm : m = .ycc444 := by
          cases m with
          | gray => exact absurd (hmode.symm.trans hone) (by decide)
          | ycc444 => rfl
        exact hchroma hm i hi

/-- Settles O43. -/
theorem encblk1CodesBlock : Obligations.Encblk1CodesBlock := by
  unfold Obligations.Encblk1CodesBlock
  intro a s rest z diff codes p hready hmode hcount hw hdc hac hsink
  have hprep := prepareBlock_of_codable (b := s.slots[a]) (t := s.sqt[0]) (codable_of_zigzag hdc hac)
  have hcodes : codeBlock (preparedOf s.slots[a] s.sqt[0] s.pred0) .luma = codes := codeBlock_preparedOf _ _ _ _
  rw [exec_encblk1_of_prepared hready hcount hmode hw hprep, hcodes, emitBlocks_of_accepts _ _ _ (codes := codes) hsink,
    preparedOf_dc]
  rfl

/-- Settles O44. -/
theorem encblk3CodesBlocks : Obligations.Encblk3CodesBlocks := by
  unfold Obligations.Encblk3CodesBlocks
  intro a b c s rest z dY dB dR codes p hready hmode hcount ha hb hc hY hB hR hac hsink
  have hprepY := prepareBlock_of_codable (b := s.slots[a]) (t := s.sqt[0]) (codable_of_zigzag hY fun k hk => (hac k hk).1)
  have hprepB := prepareBlock_of_codable (b := s.slots[b]) (t := s.sqt[1]) (codable_of_zigzag hB fun k hk => (hac k hk).2.1)
  have hprepR := prepareBlock_of_codable (b := s.slots[c]) (t := s.sqt[1]) (codable_of_zigzag hR fun k hk => (hac k hk).2.2)
  have hcodes : codeBlock (preparedOf s.slots[a] s.sqt[0] s.pred0) .luma ++
      codeBlock (preparedOf s.slots[b] s.sqt[1] s.pred1) .chroma ++
      codeBlock (preparedOf s.slots[c] s.sqt[1] s.pred2) .chroma = codes := by
    simp only [codeBlock_preparedOf]
    rfl
  rw [exec_encblk3_of_prepared hready hcount hmode ha hb hc hprepY hprepB hprepR, hcodes,
    emitBlocks_of_accepts _ _ _ (codes := codes) hsink, preparedOf_dc, preparedOf_dc, preparedOf_dc]
  rfl

/-- Settles O45: a block that cannot be coded is not prepared. -/
theorem blockCommandErrors : Obligations.BlockCommandErrors := by
  unfold Obligations.BlockCommandErrors
  intro E bad
  have hfail (s : State) {code : ErrorCode} (h : code ≠ .none) :
      (.next (s.failEncoder code) : Host.Outcome State Fault Refusal) = .next (E code s) := congrArg _ (failEncoder_eq s h)
  have hbad {s : State} {n : OpField} {t : Fin 2} {pred : S16} (h : bad s n t pred) :
      prepareBlock (s.slot n) s.sqt[t] pred = none := prepareBlock_of_notCodable h
  refine ⟨fun s i hi hs => ?_, fun s a hready => ⟨fun hmode => ?_, fun hmode hcount => ?_, fun hmode hcount hw h => ?_⟩,
    fun s a b c hready => ⟨fun hmode => ?_, fun hmode hcount => ?_, fun hmode hcount ha hb hc h => ?_⟩⟩
  · obtain ⟨a, rfl⟩ | ⟨a, b, c, rfl⟩ := hi
    · exact (exec_encblk1_of_not_ready a hs).trans (hfail s (by decide))
    · exact (exec_encblk3_of_not_ready a b c hs).trans (hfail s (by decide))
  · exact (exec_encblk1_of_mode a hready hmode).trans (hfail s (by decide))
  · exact (exec_encblk1_of_complete a hready hmode hcount).trans (hfail s (by decide))
  · exact (exec_encblk1_of_not_prepared hready hcount hmode hw (hbad (t := 0) h)).trans (hfail s (by decide))
  · exact (exec_encblk3_of_mode a b c hready hmode).trans (hfail s (by decide))
  · exact (exec_encblk3_of_complete a b c hready hmode hcount).trans (hfail s (by decide))
  · exact (exec_encblk3_of_not_prepared hready hcount hmode ha hb hc
      (h.imp (hbad (t := 0)) (Or.imp (hbad (t := 1)) (hbad (t := 1))))).trans (hfail s (by decide))

/-- Settles O47. -/
theorem encfinClosesSession : Obligations.EncfinClosesSession := by
  unfold Obligations.EncfinClosesSession
  intro s rest pad bytes hready hsink
  have hbytes : flushBytes s.bitacc s.bitcnt ++ eoi = bytes := congrArg (· ++ eoi) (flushBytes_eq_pad s.bitacc s.bitcnt)
  obtain ⟨-, h⟩ | ⟨hne, -⟩ := exec_encfin_cases s
  · rw [h, hbytes, State.offer_of_accepts (rest := rest) (by exact hsink), complete_none]
    rfl
  · exact absurd hready hne

end

section
/-! SUPPORT. What a command leaves unchanged in the window (spec/20_memory.md R61): the words outside its destination. -/

namespace Sys2Proof.Machine

/-! ### Words that stay -/

/-- Every word but `STATUS` and those at the locations `dest` is in `t` as it is in `s`. -/
def KeptOutside (dest : Location → Prop) (s t : State) : Prop := ∀ l, l ≠ .status → ¬ dest l → t.readIdle l = s.readIdle l

section
variable {dest : Location → Prop} {s t : State}

theorem keptOutside_drawn (k : Nat) : KeptOutside dest s (s.drawn k) := fun l _ _ => by
  cases l <;> rfl

theorem KeptOutside.drawn (h : KeptOutside dest s t) (k : Nat) : KeptOutside dest s (t.drawn k) :=
  fun l hl hd => (keptOutside_drawn (dest := dest) k l hl hd).trans (h l hl hd)

theorem KeptOutside.complete (h : KeptOutside dest s t) (code : ErrorCode) : KeptOutside dest s (t.complete code) :=
  fun l hl hd => by
    refine Eq.trans ?_ (h l hl hd)
    cases l with
    | status => exact absurd rfl hl
    | _ => rfl

theorem keptOutside_fail (code : ErrorCode) : KeptOutside dest s (s.complete code) :=
  (keptOutside_drawn 0).complete code

theorem keptOutside_ite {a b : State} (c : Bool) (ha : KeptOutside dest s a) (hb : KeptOutside dest s b) :
    KeptOutside dest s (if c then a else b) := by
  cases c
  · exact hb
  · exact ha

theorem keptOutside_choice (code : ErrorCode) {f : State → State} (h : KeptOutside dest s (f (s.drawn 1))) :
    KeptOutside dest s (s.freeChoice (·.complete code) f) := by
  rcases s.freeChoice_cases (·.complete code) f with e | e <;> rw [e]
  · exact (keptOutside_drawn 1).complete code
  · exact h

theorem KeptOutside.setSlot (h : KeptOutside dest s t) {n : OpField} (b : Block) (hn : ∀ i, dest (.slot n i)) :
    KeptOutside dest s (t.setSlot n b) := by
  intro l hl hd
  refine Eq.trans ?_ (h l hl hd)
  cases l with
  | slot m j =>
      have hm : m ≠ n := fun e => hd (e ▸ hn j)
      exact congrArg (fun b : Block => (b[j]).signExtend 32) (t.slot_setSlot_other b hm)
  | status => exact absurd rfl hl
  | _ => rfl

theorem KeptOutside.setQt (h : KeptOutside dest s t) {n : Fin 2} (b : Table) (hn : ∀ i, dest (.qt n i)) :
    KeptOutside dest s (t.setQt n b) := by
  intro l hl hd
  refine Eq.trans ?_ (h l hl hd)
  cases l with
  | qt m j =>
      have hm : n.val ≠ m.val := fun e => hd (Fin.ext e ▸ hn j)
      simp [State.readIdle, Vector.getElem_set_ne, hm]
  | status => exact absurd rfl hl
  | _ => rfl

theorem KeptOutside.setQuadrants (h : KeptOutside dest s t) {b : OpField} (q : Vector Block 4)
    (hn : ∀ k i, dest (.slot (slotPlus b k) i)) : KeptOutside dest s (t.setQuadrants b q) :=
  (((h.setSlot _ (hn 0)).setSlot _ (hn 1)).setSlot _ (hn 2)).setSlot _ (hn 3)

end

/-! ### The destinations of the commands outside the encoder -/

/-- The entries a command outside the encoder writes. -/
def Destination : Instr → Location → Prop
  | .fdct d _, l | .idct d _, l | .quant d _ _, l | .downs d _, l => ∃ i, l = .slot d i
  | .ups b _, l => ∃ n i, l = .slot n i ∧ b.val ≤ n.val ∧ n.val ≤ b.val + 3
  | .qbuild t _ _ _, l => ∃ n i, l = .qt n i ∧ n.val = t.val
  | .qbuildp _, l => ∃ n i, l = .qt n i
  | _, _ => False

/-- A command outside the encoder writes its destination and its completion. -/
theorem exec_keptOutside {i : Instr} (hb : IsEncoder i = false) {s t : State} (he : exec i s = .next t) :
    KeptOutside (Destination i) s t := by
  cases hw : i.wellFormed with
  | false =>
      cases (exec_of_illFormed hw s).symm.trans he
      exact keptOutside_fail _
  | true =>
      have start {dest : Location → Prop} (k : Nat) : KeptOutside dest s (s.drawn k) := keptOutside_drawn k
      cases i with
      | fdct d a | downs d a =>
          cases he
          have dest (j : Fin 64) : ∃ i, Location.slot d j = .slot d i := ⟨j, rfl⟩
          exact keptOutside_ite _ (keptOutside_fail _) <|
            keptOutside_ite _ (keptOutside_choice _ ((((start 1).setSlot _ dest).drawn 64).complete _)) <|
            keptOutside_ite _ (keptOutside_fail _) (((start 0).setSlot _ dest).complete _)
      | idct d a =>
          cases he
          have dest (j : Fin 64) : ∃ i, Location.slot d j = .slot d i := ⟨j, rfl⟩
          exact keptOutside_ite _ (keptOutside_fail _) <|
            keptOutside_ite _ ((((start 0).setSlot _ dest).drawn 64).complete _) (((start 0).setSlot _ dest).complete _)
      | quant d a n =>
          cases he
          have dest (j : Fin 64) : ∃ i, Location.slot d j = .slot d i := ⟨j, rfl⟩
          exact keptOutside_ite _ (keptOutside_fail _) <| keptOutside_ite _ (keptOutside_fail _) <|
            keptOutside_ite _ ((((start 0).setSlot _ dest).drawn 64).complete _) (((start 0).setSlot _ dest).complete _)
      | ups b a =>
          cases he
          have hb : b.val < 13 := by
            simp only [Instr.wellFormed, Bool.and_eq_true] at hw
            exact (fourSlotsOk_iff b).1 hw.1
          have dest (k : Fin 4) (j : Fin 64) : Destination (.ups b a) (.slot (slotPlus b k) j) :=
            ⟨_, j, rfl, by rw [slotPlus_val hb]; omega⟩
          exact keptOutside_ite _ (keptOutside_fail _) <|
            keptOutside_ite _ (keptOutside_choice _ ((((start 1).setQuadrants _ dest).drawn 256).complete _)) <|
            keptOutside_ite _ (keptOutside_fail _) (((start 0).setQuadrants _ dest).complete _)
      | qbuild n a bsel q =>
          cases he
          have hn : n.val < 2 := by
            simp only [Instr.wellFormed, Bool.and_eq_true] at hw
            exact (tableOk_iff n).1 hw.1.1
          have dest (j : Fin 64) : Destination (.qbuild n a bsel q) (.qt (tableIndex n) j) := ⟨_, j, rfl, Nat.mod_eq_of_lt hn⟩
          exact keptOutside_ite _ (keptOutside_fail _) <| keptOutside_ite _ (keptOutside_fail _) <|
            keptOutside_ite _ (keptOutside_choice _ ((((start 1).setQt _ dest).drawn 64).complete _)) <|
            keptOutside_ite _ (keptOutside_fail _) (((start 0).setQt _ dest).complete _)
      | qbuildp q =>
          cases he
          have dest (n : Fin 2) (j : Fin 64) : Destination (.qbuildp q) (.qt n j) := ⟨n, j, rfl⟩
          exact keptOutside_ite _ (keptOutside_fail _) ((((start 0).setQt _ (dest 0)).setQt _ (dest 1)).complete _)
      | encrst _ _ | encblk1 _ | encblk3 _ _ _ | encfin => cases hb

/-! ### What `ENCFIN` leaves of the session -/

theorem offer_closeSession_counters (s : State) (bytes : List Byte) :
    let t := s.offer .closeSession bytes
    t.pred0 = s.pred0 ∧ t.pred1 = s.pred1 ∧ t.pred2 = s.pred2 ∧ t.mcuCount = s.mcuCount := by
  induction bytes generalizing s with
  | nil => exact ⟨rfl, rfl, rfl, rfl⟩
  | cons b bs ih =>
      rw [State.offer]
      cases s.answer with
      | accept => simpa [State.appendByte] using ih (s.takeAnswer.appendByte b)
      | reject => simp [State.afterReject, State.freeBitstate]
      | stall => simp

/-- The words an encoder command never changes. -/
theorem EncoderFrame.readIdle {s t : State} (h : EncoderFrame s t) {off : Fin 8192} (hstatus : off.val ≠ 0x00C)
    (hoff : off.val < 0x01C ∨ 0x038 ≤ off.val) : t.readIdle (locate off) = s.readIdle (locate off) := by
  cases hl : locate off with
  | id | cfg | unmapped => rfl
  | ctrl => simp [State.readIdle, h.ctrlIE]
  | cmd => exact h.cmd
  | width => exact h.width
  | height => exact h.height
  | qt n i => simp [State.readIdle, h.qt]
  | slot n i => simp [State.readIdle, h.slots]
  | status | mcuTotal | mcuCount | predDc0 | predDc1 | predDc2 | bitstate | outCount =>
      have := val_of_locate_register hl rfl
      omega

end Sys2Proof.Machine

/-! ### The obligations -/

open Sys2Proof Sys2Proof.Machine

/-- Settles O38: the destination's entries stand between the two offsets. -/
theorem bufferCommandsFrame : Obligations.BufferCommandsFrame := by
  unfold Obligations.BufferCommandsFrame
  intro i s t lo hi hdest he
  have hrange (off : Fin 8192) (h : Destination i (locate off)) : lo ≤ off.val ∧ off.val < hi := by
    rcases hdest with ⟨d, a, rfl, rfl, rfl⟩ | ⟨d, a, rfl, rfl, rfl⟩ | ⟨d, a, n, rfl, rfl, rfl⟩ | ⟨d, b, rfl, rfl, rfl⟩ |
      ⟨b, a, rfl, rfl, rfl⟩ | ⟨n, a, bsel, q, rfl, rfl, rfl⟩ | ⟨q, rfl, rfl, rfl⟩
    · exact h.elim fun _ hl => locate_eq_slot hl
    · exact h.elim fun _ hl => locate_eq_slot hl
    · exact h.elim fun _ hl => locate_eq_slot hl
    · exact h.elim fun _ hl => locate_eq_slot hl
    · obtain ⟨n, j, hl, hlo, hhi⟩ := h
      have := locate_eq_slot hl
      omega
    · obtain ⟨n', j, hl, hn⟩ := h
      have := locate_eq_qt hl
      omega
    · obtain ⟨n', j, hl⟩ := h
      have := locate_eq_qt hl
      omega
  have hb : IsEncoder i = false := by
    rcases hdest with ⟨_, _, rfl, -⟩ | ⟨_, _, rfl, -⟩ | ⟨_, _, _, rfl, -⟩ | ⟨_, _, rfl, -⟩ | ⟨_, _, rfl, -⟩ |
      ⟨_, _, _, _, rfl, -⟩ | ⟨_, rfl, -⟩ <;> rfl
  refine ⟨fun off hstatus hout => ?_, ?_⟩
  · exact exec_keptOutside hb he _ (fun hl => hstatus (val_of_locate_register hl rfl)) fun hd => hout (hrange off hd)
  · obtain ⟨u, hu, _, _, _, _, _, rfl, -⟩ := exec_buffer i s hb
    cases hu.symm.trans he
    exact ⟨rfl, rfl, rfl, rfl, rfl, rfl, rfl, rfl⟩

/-- Settles O39, by the ways an encoder command ends. -/
theorem encoderCommandsFrame : Obligations.EncoderCommandsFrame := by
  unfold Obligations.EncoderCommandsFrame
  intro i s t hb he
  obtain ⟨u, hu, hr⟩ := exec_encoder hb s
  cases hu.symm.trans he
  have hframe := hr.frame
  refine ⟨fun off hstatus hoff => hframe.readIdle hstatus hoff, hframe.cmdOverrun, hframe.accConflict, fun hne => ?_⟩
  cases hr with
  | rejected expl mode | opened expl mode => exact absurd rfl (hne expl mode)
  | refused hblk => exact ⟨rfl, rfl, rfl, fun h => absurd h hblk.ne_encfin, fun _ => rfl⟩
  | coded hblk =>
      rw [State.emitBlocks]
      exact ⟨by simp, by simp, by simp, fun h => absurd h hblk.ne_encfin, fun _ => by simp⟩
  | flushed => exact ⟨by simp, by simp, by simp, fun _ => offer_closeSession_counters _ _, fun h => absurd rfl h⟩
  | closed => exact ⟨rfl, rfl, rfl, fun _ => ⟨rfl, rfl, rfl, rfl⟩, fun h => absurd rfl h⟩

end

section
/-! SUPPORT. A command and the sink's answers (spec/20_memory.md R72, R73, R297): the answers decide only how far the offering of the
command's bytes gets. -/

namespace Sys2Proof.Machine

/-- `s` with these coming answers of the sink. -/
def State.withSink (s : State) (answers : List SinkAnswer) : State := { s with sink := answers }

/-! ### What a command offers, from which state -/

/-- The state from which a command offers its bytes, and what is left to do after them. -/
inductive OfferStart (s : State) : Instr → State → Finish → Prop
  | header (expl : Bool) (mode : Fin 4) (m : ColorMode) :
      OfferStart s (.encrst expl mode) (({ s with incomplete := false } : State).initSession m expl) .openSession
  | blocks {i : Instr} {most : Nat} (hi : BlockCommand i most) (k : Nat) (p0 p1 p2 : S16) (acc : BitVec 7) (cnt : Fin 8) :
      OfferStart s i (s.drawn k) (.codeBlocks p0 p1 p2 acc cnt)
  | flush (incomplete : Bool) :
      OfferStart s .encfin { s with incomplete := incomplete, bitacc := 0, bitcnt := 0 } .closeSession

/-- The next state `g` as a function of the sink's coming answers: they are not read; or they answer bytes that do not depend on
them. -/
inductive SinkResult (i : Instr) (s : State) (g : List SinkAnswer → State) : Prop
  | ended (u : State) (h : ∀ answers, g answers = u.withSink answers) (hidle : u.engine = .idle) (hholds : u.sinkHolds = s.sinkHolds)
  | offered (u : State) (fin : Finish) (bytes : List Byte) (h : ∀ answers, g answers = (u.withSink answers).offer fin bytes)
      (hstart : OfferStart s i u fin)

section
variable {i : Instr} {s : State} {f g : List SinkAnswer → State}

/-- A branch the sink does not decide. -/
theorem SinkResult.ite {c : List SinkAnswer → Bool} (hc : ∀ answers, c answers = c []) (hf : SinkResult i s f) (hg : SinkResult i s g) :
    SinkResult i s fun answers => if c answers then f answers else g answers := by
  have hconst : c = fun _ => c [] := funext hc
  rw [hconst]
  cases c []
  · exact hg
  · exact hf

theorem SinkResult.choice {a b : State → State} (ha : SinkResult i s fun answers => a ((s.drawn 1).withSink answers))
    (hb : SinkResult i s fun answers => b ((s.drawn 1).withSink answers)) :
    SinkResult i s fun answers => (s.withSink answers).freeChoice a b :=
  .ite (c := fun _ => (Config.freeWord s.draws).getLsbD 0) (fun _ => rfl) ha hb

/-- The command completes without reading an answer. -/
theorem SinkResult.completed {u : State} {code : ErrorCode} (h : ∀ answers, g answers = (u.withSink answers).complete code)
    (hholds : u.sinkHolds = s.sinkHolds) : SinkResult i s g :=
  .ended (u.complete code) h rfl hholds

theorem SinkResult.failed (code : ErrorCode) : SinkResult i s fun answers => (s.withSink answers).complete code :=
  .completed (fun _ => rfl) rfl

theorem SinkResult.refused (code : ErrorCode) : SinkResult i s fun answers => (s.withSink answers).failEncoder code :=
  .ended (s.failEncoder code) (fun _ => rfl) rfl rfl

end

theorem withSink_drawn (s : State) (k : Nat) (answers : List SinkAnswer) :
    (s.withSink answers).drawn k = (s.drawn k).withSink answers := rfl

theorem withSink_setQuadrants (s : State) (b : OpField) (q : Vector Block 4) (answers : List SinkAnswer) :
    (s.withSink answers).setQuadrants b q = (s.setQuadrants b q).withSink answers := rfl

theorem withSink_setFreeQuadrants (s : State) (b : OpField) (answers : List SinkAnswer) :
    (s.withSink answers).setFreeQuadrants b = (s.setFreeQuadrants b).withSink answers := by
  unfold State.setFreeQuadrants
  rw [← withSink_drawn, ← withSink_setQuadrants]
  rfl

theorem setQuadrants_sinkHolds (s : State) (b : OpField) (q : Vector Block 4) : (s.setQuadrants b q).sinkHolds = s.sinkHolds := by
  simp [State.setQuadrants]

theorem setFreeQuadrants_sinkHolds (s : State) (b : OpField) : (s.setFreeQuadrants b).sinkHolds = s.sinkHolds := by
  rw [State.setFreeQuadrants, State.drawn_sinkHolds, setQuadrants_sinkHolds]

theorem SinkResult.ups {i : Instr} {s : State} (a b : OpField) : SinkResult i s fun answers =>
    ((s.withSink answers).setQuadrants b (upQuadrants ((s.withSink answers).slot a))).complete .none :=
  .completed (u := s.setQuadrants b (upQuadrants (s.slot a)))
    (fun answers => congrArg (State.complete · .none) (withSink_setQuadrants s b (upQuadrants (s.slot a)) answers))
    (setQuadrants_sinkHolds s b _)

theorem SinkResult.upsFree {i : Instr} {s : State} (b : OpField) : SinkResult i s fun answers =>
    (((s.drawn 1).withSink answers).setFreeQuadrants b).complete .none :=
  .completed (u := (s.drawn 1).setFreeQuadrants b)
    (fun answers => congrArg (State.complete · .none) (withSink_setFreeQuadrants (s.drawn 1) b answers))
    (setFreeQuadrants_sinkHolds (s.drawn 1) b)

theorem withSink_setFreeSlot (s : State) (n : OpField) (answers : List SinkAnswer) :
    (s.withSink answers).setFreeSlot n = (s.setFreeSlot n).withSink answers := by
  rw [State.setFreeSlot, State.setFreeSlot, ← withSink_drawn]
  rfl

theorem SinkResult.slotFree {i : Instr} {s t : State} (n : OpField) (h : t.sinkHolds = s.sinkHolds) : SinkResult i s fun answers =>
    ((t.withSink answers).setFreeSlot n).complete .none :=
  .completed (u := t.setFreeSlot n) (fun answers => congrArg (State.complete · .none) (withSink_setFreeSlot t n answers))
    (by rw [State.setFreeSlot, State.drawn_sinkHolds, State.setSlot_sinkHolds, h])

theorem SinkResult.tables {i : Instr} {s : State} (b c : Table) : SinkResult i s fun answers =>
    (((s.withSink answers).setQt 0 b).setQt 1 c).complete .none :=
  .completed (u := (s.setQt 0 b).setQt 1 c) (fun _ => rfl) rfl

/-- A command outside the encoder does not read the sink's answers. -/
theorem exec_buffer_sinkResult {i : Instr} (hb : IsEncoder i = false) (s : State) :
    ∃ g, (∀ answers, exec i (s.withSink answers) = .next (g answers)) ∧ SinkResult i s g := by
  have fail (code : ErrorCode) := SinkResult.failed (i := i) (s := s) code
  have failDrawn (code : ErrorCode) : SinkResult i s fun answers => ((s.drawn 1).withSink answers).complete code :=
    .completed (u := s.drawn 1) (fun _ => rfl) rfl
  cases i with
  | fdct d a =>
      exact ⟨_, fun _ => rfl, .ite (fun _ => rfl) (fail _) <|
        .ite (fun _ => rfl) (.choice (failDrawn _) (.slotFree (t := s.drawn 1) d rfl)) <|
        .ite (fun _ => rfl) (fail _) (.completed (u := s.setSlot d (fdctBlock (s.slot a))) (fun _ => rfl) rfl)⟩
  | idct d a =>
      exact ⟨_, fun _ => rfl, .ite (fun _ => rfl) (fail _) <|
        .ite (fun _ => rfl) (.slotFree d rfl)
          (.completed (u := s.setSlot d (idctBlock (s.slot a))) (fun _ => rfl) rfl)⟩
  | qbuild t a bsel q =>
      exact ⟨_, fun _ => rfl, .ite (fun _ => rfl) (fail _) <| .ite (fun _ => rfl) (fail _) <|
        .ite (fun _ => rfl) (.choice (failDrawn _) (.completed (u := (s.drawn 1).setFreeQt (tableIndex t)) (fun _ => rfl) rfl)) <|
        .ite (fun _ => rfl) (fail _)
          (.completed (u := s.setQt (tableIndex t) (buildTable (baseTable bsel (s.slot a)) q)) (fun _ => rfl) rfl)⟩
  | qbuildp q =>
      exact ⟨_, fun _ => rfl, .ite (fun _ => rfl) (fail _)
        (.tables (buildTable baseL q) (buildTable baseC q))⟩
  | quant d a t =>
      exact ⟨_, fun _ => rfl, .ite (fun _ => rfl) (fail _) <| .ite (fun _ => rfl) (fail _) <|
        .ite (fun _ => rfl) (.slotFree d rfl)
          (.completed (u := s.setSlot d (quantBlock (s.slot a) s.qt[tableIndex t])) (fun _ => rfl) rfl)⟩
  | downs d b =>
      exact ⟨_, fun _ => rfl, .ite (fun _ => rfl) (fail _) <|
        .ite (fun _ => rfl) (.choice (failDrawn _) (.slotFree (t := s.drawn 1) d rfl)) <|
        .ite (fun _ => rfl) (fail _) (.completed (u := s.setSlot d (downBlock (s.quadrants b))) (fun _ => rfl) rfl)⟩
  | ups b a =>
      exact ⟨_, fun _ => rfl, .ite (fun _ => rfl) (fail _) <|
        .ite (fun _ => rfl) (.choice (failDrawn _) (.upsFree b)) <|
        .ite (fun _ => rfl) (fail _) (.ups a b)⟩
  | encrst _ _ | encblk1 _ | encblk3 _ _ _ | encfin => cases hb

/-- The code bits of a block command go out from the state as it is, but for its draws. -/
theorem sinkResult_emitBlocks {i : Instr} {most : Nat} (hi : BlockCommand i most) (s : State) (k : Nat) (codes : List Bits)
    (p0 p1 p2 : S16) : SinkResult i s fun answers => ((s.drawn k).withSink answers).emitBlocks codes p0 p1 p2 :=
  .offered (s.drawn k) (.codeBlocks p0 p1 p2 (s.packer.putAll codes).acc (s.packer.putAll codes).cnt) (s.packer.putAll codes).out
    (fun _ => rfl) (.blocks hi k _ _ _ _ _)

/-- So do the free code bits on an unwritten slot (R283). -/
theorem sinkResult_emitFree {i : Instr} {most : Nat} (hi : BlockCommand i most) (s : State) (bits : Nat) (three : Bool) :
    SinkResult i s fun answers => ((s.drawn 1).withSink answers).emitFree bits three := by
  let codes : List Bits := ((Config.freeBits (s.draws + 1)).take bits).map fun b => { value := b.toNat, n := 1 }
  exact sinkResult_emitBlocks hi s 5 codes ((Config.freeWord (s.draws + 1 + 1)).setWidth 16)
    (if three then (Config.freeWord (s.draws + 1 + 2)).setWidth 16 else s.pred1)
    (if three then (Config.freeWord (s.draws + 1 + 3)).setWidth 16 else s.pred2)

/-- An encoder command ends with an error of its own, or offers bytes, whatever the sink's answers. -/
theorem exec_encoder_sinkResult {i : Instr} (hb : IsEncoder i = true) (s : State) :
    ∃ g, (∀ answers, exec i (s.withSink answers) = .next (g answers)) ∧ SinkResult i s g := by
  have refuse (code : ErrorCode) := SinkResult.refused (i := i) (s := s) code
  have refuseDrawn : SinkResult i s fun answers => ((s.drawn 1).withSink answers).failEncoder .dataRange :=
    .ended ((s.drawn 1).failEncoder .dataRange) (fun _ => rfl) rfl rfl
  cases i with
  | encrst expl mode =>
      by_cases h : ∃ m, colorMode mode = some m ∧ dimensionOk s.sampledWidth = true ∧ dimensionOk s.sampledHeight = true ∧
          (expl = true → explicitTablesOk m s.qt = true)
      · obtain ⟨m, hm, hw, hh, hq⟩ := h
        exact ⟨_, fun answers => exec_encrst_of_legal (s := s.withSink answers) hm hw hh hq,
          .offered (({ s with incomplete := false } : State).initSession m expl) _
            (({ s with incomplete := false } : State).initSession m expl).sessionHeader (fun _ => rfl) (.header expl mode m)⟩
      · exact ⟨_, fun answers => (exec_encrst_cases expl mode (s.withSink answers)).resolve_right
            fun ⟨m, hm, hw, hh, hq, _⟩ => h ⟨m, hm, hw, hh, hq⟩,
          .ended (({ s with incomplete := false } : State).failEncoder .configuration) (fun _ => rfl) rfl rfl⟩
  | encblk1 a =>
      by_cases hready : s.encState = .ready
      case neg => exact ⟨_, fun _ => exec_encblk1_of_not_ready a hready, refuse _⟩
      by_cases hmode : s.encMode = .gray
      case neg => exact ⟨_, fun _ => exec_encblk1_of_mode a hready hmode, refuse _⟩
      by_cases hcount : s.mcuCount.toNat < s.mcuTotal.toNat
      case neg => exact ⟨_, fun _ => exec_encblk1_of_complete a hready hmode (not_lt.1 hcount), refuse _⟩
      cases hw : s.slotWritten a with
      | false => exact ⟨_, fun _ => exec_encblk1_of_unwritten hready hcount hmode hw,
          .choice refuseDrawn (sinkResult_emitFree (.one a) s _ _)⟩
      | true =>
          cases hp : prepareBlock (s.slot a) s.sqt[0] s.pred0 with
          | none => exact ⟨_, fun _ => exec_encblk1_of_not_prepared hready hcount hmode hw hp, refuse _⟩
          | some p => exact ⟨_, fun answers => exec_encblk1_of_prepared (st := s.withSink answers) hready hcount hmode hw hp,
              sinkResult_emitBlocks (.one a) s 0 _ _ _ _⟩
  | encblk3 a b c =>
      by_cases hready : s.encState = .ready
      case neg => exact ⟨_, fun _ => exec_encblk3_of_not_ready a b c hready, refuse _⟩
      by_cases hmode : s.encMode = .ycc444
      case neg => exact ⟨_, fun _ => exec_encblk3_of_mode a b c hready hmode, refuse _⟩
      by_cases hcount : s.mcuCount.toNat < s.mcuTotal.toNat
      case neg => exact ⟨_, fun _ => exec_encblk3_of_complete a b c hready hmode (not_lt.1 hcount), refuse _⟩
      by_cases hw : (s.slotWritten a && s.slotWritten b && s.slotWritten c) = true
      case neg => exact ⟨_, fun _ => exec_encblk3_of_unwritten hready hcount hmode (Bool.eq_false_iff.2 hw),
          .choice refuseDrawn (sinkResult_emitFree (.three a b c) s _ _)⟩
      obtain ⟨⟨ha, hb⟩, hc⟩ : (s.slotWritten a = true ∧ s.slotWritten b = true) ∧ s.slotWritten c = true := by simpa using hw
      have unprepared (hp : prepareBlock (s.slot a) s.sqt[0] s.pred0 = none ∨ prepareBlock (s.slot b) s.sqt[1] s.pred1 = none ∨
          prepareBlock (s.slot c) s.sqt[1] s.pred2 = none) (answers : List SinkAnswer) :
          exec (.encblk3 a b c) (s.withSink answers) = .next ((s.withSink answers).failEncoder .dataRange) :=
        exec_encblk3_of_not_prepared hready hcount hmode ha hb hc hp
      cases hY : prepareBlock (s.slot a) s.sqt[0] s.pred0 with
      | none => exact ⟨_, unprepared (.inl hY), refuse _⟩
      | some pY =>
      cases hB : prepareBlock (s.slot b) s.sqt[1] s.pred1 with
      | none => exact ⟨_, unprepared (.inr (.inl hB)), refuse _⟩
      | some pB =>
      cases hR : prepareBlock (s.slot c) s.sqt[1] s.pred2 with
      | none => exact ⟨_, unprepared (.inr (.inr hR)), refuse _⟩
      | some pR => exact ⟨_, fun answers => exec_encblk3_of_prepared (st := s.withSink answers) hready hcount hmode ha hb hc hY hB hR,
          sinkResult_emitBlocks (.three a b c) s 0 _ _ _ _⟩
  | encfin =>
      by_cases hready : s.encState = .ready
      · exact ⟨_, fun answers => ((exec_encfin_cases (s.withSink answers)).resolve_right fun h => h.1 hready).2,
          .offered { s with incomplete := decide (s.mcuCount.toNat < s.mcuTotal.toNat), bitacc := 0, bitcnt := 0 } _
            (flushBytes s.bitacc s.bitcnt ++ eoi) (fun _ => rfl)
            (.flush _)⟩
      · exact ⟨_, fun answers => ((exec_encfin_cases (s.withSink answers)).resolve_left fun h => hready h.1).2,
          .ended (({ s with encState := .closed } : State).complete .none) (fun _ => rfl) rfl rfl⟩
  | _ => cases hb

theorem exec_sinkResult (i : Instr) (s : State) :
    ∃ g, (∀ answers, exec i (s.withSink answers) = .next (g answers)) ∧ SinkResult i s g := by
  cases hb : IsEncoder i with
  | false => exact exec_buffer_sinkResult hb s
  | true => exact exec_encoder_sinkResult hb s

/-! ### Stalls (R297) -/

/-- The engine's activity does not matter to `offer`: each of its ways sets it. -/
theorem offer_of_engine (s : State) (e : Engine) (fin : Finish) (bytes : List Byte) :
    ({ s with engine := e } : State).offer fin bytes = s.offer fin bytes := by
  induction bytes generalizing s with
  | nil => cases fin <;> rfl
  | cons b bs ih =>
      have htake : ({ s with engine := e } : State).takeAnswer = { s.takeAnswer with engine := e } := by
        unfold State.takeAnswer
        cases s.sink <;> rfl
      rw [State.offer, State.offer, htake, show ({ s with engine := e } : State).answer = s.answer from rfl]
      cases s.answer with
      | accept => exact ih (s.takeAnswer.appendByte b)
      | reject => cases fin <;> rfl
      | stall => rfl

theorem withSink_answer (s : State) (a : SinkAnswer) (rest : List SinkAnswer) : (s.withSink (a :: rest)).answer = a := rfl

theorem withSink_takeAnswer (s : State) (a : SinkAnswer) (rest : List SinkAnswer) :
    (s.withSink (a :: rest)).takeAnswer = s.withSink rest := rfl

/-- A stall leaves the byte to be offered again by the engine's next move: in the end the state is the same, up to the answers left. -/
theorem offer_stalls_delay (u : State) (fin : Finish) (bytes : List Byte) (answers : List SinkAnswer) (hturns : u.turns = [])
    (hidle : ((u.withSink (answers.filter (· ≠ .stall))).offer fin bytes).engine = .idle) :
    ∃ n w, Host.Core.run Sys2Proof.core n ((u.withSink answers).offer fin bytes) = .next w ∧
      w.withSink [] = ((u.withSink (answers.filter (· ≠ .stall))).offer fin bytes).withSink [] := by
  induction answers generalizing u bytes with
  | nil => exact ⟨0, _, rfl, rfl⟩
  | cons a answers ih =>
      cases bytes with
      | nil => exact ⟨0, _, rfl, by cases fin <;> rfl⟩
      | cons b bytes =>
          cases a with
          | accept => exact ih (u.appendByte b) bytes hturns hidle
          | reject => exact ⟨0, _, rfl, by cases fin <;> rfl⟩
          | stall =>
              obtain ⟨n, w, hrun, hw⟩ := ih u (b :: bytes) hturns hidle
              have hheld : step ((u.withSink (.stall :: answers)).offer fin (b :: bytes)) =
                  .next ((u.withSink answers).offer fin (b :: bytes)) := by
                have hnil : ((u.withSink (.stall :: answers)).offer fin (b :: bytes)).turns = [] :=
                  (State.offer_turns (u.withSink (.stall :: answers)) _ _).trans hturns
                refine (step_of_nil hnil).trans ?_
                exact congrArg _ (offer_of_engine (u.withSink answers) (.offering b bytes fin) fin (b :: bytes))
              exact ⟨n + 1, w, (run_succ hheld n).trans hrun, hw⟩

theorem OfferStart.turns {i : Instr} {s u : State} {fin : Finish} (h : OfferStart s i u fin) : u.turns = s.turns := by
  cases h <;> rfl

/-! ### A rejected byte (R72, R73) -/

/-- The sink accepts the first bytes and rejects the next. -/
theorem offer_of_reject {s : State} {fin : Finish} {sent : List Byte} (b : Byte) (later : List Byte) {rest : List SinkAnswer}
    (h : s.sink = List.replicate sent.length .accept ++ .reject :: rest) :
    s.offer fin (sent ++ b :: later) = (({ s with
      outCount := s.outCount + BitVec.ofNat 32 sent.length, stream := s.stream ++ sent, sinkHolds := s.sinkHolds ++ sent
      sink := rest } : State).afterReject fin).failEncoder .io := by
  rw [State.offer_append h, State.afterSent_of_accepts h]
  rfl

/-- `s` once the sink has accepted these bytes, with these answers and draws left. -/
def State.sent (s : State) (bytes : List Byte) (answers : List SinkAnswer) (draws : Nat) : State :=
  { s with
    outCount := s.outCount + BitVec.ofNat 32 bytes.length, stream := s.stream ++ bytes, sinkHolds := s.sinkHolds ++ bytes
    sink := answers, draws := draws }

/-- A command that has succeeded has had all its bytes accepted, and has finished. -/
theorem offer_of_success {s : State} {fin : Finish} {bytes : List Byte} (hidle : (s.offer fin bytes).engine = .idle)
    (hcode : (s.offer fin bytes).errcode = .none) :
    ∃ answers draws, s.offer fin bytes = ((s.sent bytes answers draws).finish fin).complete .none := by
  rcases s.offer_cases fin bytes with h | ⟨sent, b, rest, -, ⟨-, h⟩ | ⟨-, h⟩⟩
  · refine ⟨(s.afterSent bytes).sink, (s.afterSent bytes).draws, h.trans ?_⟩
    rw [State.sent, ← State.afterSent_outCount, ← State.afterSent_stream, ← State.afterSent_sinkHolds, ← State.afterSent_frame]
  · exact ErrorCode.noConfusion ((congrArg State.errcode h).symm.trans hcode)
  · exact Engine.noConfusion ((congrArg State.engine h).symm.trans hidle)

theorem take_append_append (l sent rest : List Byte) : (l ++ (sent ++ rest)).take (l.length + sent.length) = l ++ sent := by
  rw [← List.append_assoc, ← List.length_append, List.take_left]

theorem OfferStart.sinkHolds {i : Instr} {s u : State} {fin : Finish} (h : OfferStart s i u fin) : u.sinkHolds = s.sinkHolds := by
  cases h <;> rfl

end Sys2Proof.Machine

/-! ### The obligations -/

open Sys2Proof Sys2Proof.Machine

/-- Settles O53: the bytes a command offers and the state it offers them from do not depend on the answers. -/
theorem rejectStopsAtTheByte : Obligations.RejectStopsAtTheByte := by
  unfold Obligations.RejectStopsAtTheByte
  refine ⟨fun s fin sent b later rest hsink => ⟨_, offer_of_reject b later hsink, ?_⟩,
    fun i s u n k rest hu hidle hcode hholds hk => ?_⟩
  · refine ⟨rfl, by simp, rfl, rfl, rfl, by simp, by simp, by simp, by simp, by simp, by simp, by simp, by simp, by simp,
      by simp, ?_, ?_⟩
    · rintro rfl
      exact ⟨rfl, rfl, rfl, rfl, rfl, rfl⟩
    · rintro rfl
      exact ⟨rfl, rfl, rfl, rfl⟩
  · obtain ⟨g, hexec, hr⟩ := exec_sinkResult i s
    cases (hexec _).symm.trans hu
    obtain ⟨u, h, -, hkept⟩ | ⟨u, fin, bytes, h, hstart⟩ := hr
    · rw [h] at hholds
      have := congrArg List.length hkept
      exact absurd hholds (by simp [State.withSink]; omega)
    · rw [h] at hidle hcode hholds ⊢
      obtain ⟨answers, draws, hsuccess⟩ := offer_of_success hidle hcode
      have hall := congrArg State.sinkHolds hsuccess
      rw [State.complete_sinkHolds, State.finish_sinkHolds] at hall
      have hlen : bytes.length = n := by
        have hstartLen := congrArg List.length hstart.sinkHolds
        rw [hall] at hholds
        simp only [State.sent, State.withSink, List.length_append] at hholds
        omega
      obtain ⟨sent, b, later, rfl, rfl⟩ : ∃ sent b later, bytes = sent ++ b :: later ∧ sent.length = k :=
        ⟨bytes.take k, bytes[k], bytes.drop (k + 1), by simp, by simp; omega⟩
      have hdone := State.offer_of_accepts (s := u.withSink (List.replicate n .accept)) (fin := fin)
        (bytes := sent ++ b :: later) (rest := []) (by rw [hlen]; simp [State.withSink])
      have hcut := offer_of_reject (s := u.withSink (List.replicate sent.length .accept ++ .reject :: rest)) (fin := fin) b later rfl
      refine ⟨_, hexec _, ?_, ?_, ?_⟩
      · rw [h, hdone, hcut, complete_none, failEncoder_eq _ (by decide)]
        have hstream : (u.stream ++ (sent ++ b :: later)).take ((u.stream ++ (sent ++ b :: later)).length - n + sent.length) =
            u.stream ++ sent := by
          rw [List.length_append, hlen, Nat.add_sub_cancel, take_append_append]
        have hsinkHolds : (u.sinkHolds ++ (sent ++ b :: later)).take (s.sinkHolds.length + sent.length) = u.sinkHolds ++ sent := by
          rw [← hstart.sinkHolds, take_append_append]
        have hout : u.outCount + BitVec.ofNat 32 (sent ++ b :: later).length - BitVec.ofNat 32 (n - sent.length) =
            u.outCount + BitVec.ofNat 32 sent.length := by
          have hsum : n = sent.length + (n - sent.length) := by omega
          rw [hlen]
          conv_lhs => rw [hsum]
          rw [BitVec.ofNat_add, Nat.add_sub_cancel_left, ← BitVec.add_assoc, BitVec.add_sub_cancel]
        cases fin <;>
          simp only [State.withSink, State.finish, State.afterReject, State.freeCounters, State.freeBitstate, hstream, hsinkHolds, hout]
      · rw [h, hcut]
        rintro ⟨expl, mode, rfl⟩
        cases hstart with
        | header => simp [State.afterReject, State.withSink, State.initSession]
        | blocks hi => exact absurd ⟨_, _, rfl⟩ hi.ne_encrst
      · rw [h, hcut]
        rintro rfl
        cases hstart with
        | blocks hi => exact absurd rfl hi.ne_encfin
        | flush => exact ⟨rfl, rfl, rfl, rfl⟩

/-- Settles O54: the command offers the same bytes from the same state, and a stall only repeats an offer. -/
theorem stallsOnlyDelay : Obligations.StallsOnlyDelay := by
  unfold Obligations.StallsOnlyDelay
  intro i s v hturns hv hidle
  obtain ⟨g, hexec, hr⟩ := exec_sinkResult i s
  cases (hexec _).symm.trans hv
  obtain ⟨u, h, -, -⟩ | ⟨u, fin, bytes, h, hstart⟩ := hr
  · refine ⟨_, 0, _, hexec s.sink, rfl, ?_⟩
    rw [h, h]
    rfl
  · rw [h] at hidle ⊢
    obtain ⟨n, w, hrun, hw⟩ := offer_stalls_delay u fin bytes s.sink (hstart.turns.trans hturns) hidle
    exact ⟨_, n, w, hexec s.sink, by rw [h]; exact hrun, hw⟩

end

section
/-! SUPPORT. A whole session (spec/43_encoder.md R194): what holds after `ENCRST` and some block commands, and how `ENCFIN` closes it. -/

namespace Sys2Proof.Machine

/-! ### Commands that succeed -/

/-- Commands that run to their completion one after the other do so one by one. -/
theorem runAll_cons {i : Instr} {is : List Instr} {s t : State} (h : runAll (i :: is) s = some t) :
    ∃ u, exec i s = .next u ∧ u.engine = .idle ∧ u.errcode = .none ∧ runAll is u = some t := by
  obtain ⟨u, hu⟩ := exec_next i s
  rw [runAll, hu] at h
  dsimp only at h
  split at h
  · next hdone => exact ⟨u, hu, hdone.1, hdone.2, h⟩
  · cases h

/-! ### The session so far -/

/-- The bit buffer at the start of a scan. -/
def emptyPacker : Packer := { acc := 0, cnt := 0, out := [] }

/-- The number of MCUs of the image whose dimensions `s` has sampled (R41). -/
def mcusOf (s : State) : Nat := (s.sampledWidth.toNat + 7) / 8 * ((s.sampledHeight.toNat + 7) / 8)

/-- The header of the session that `ENCRST` opens from `s` (R230). -/
def headerOf (s : State) (m : ColorMode) (expl : Bool) : List Byte :=
  headerBytes m s.sampledWidth.toNat s.sampledHeight.toNat (sessionTables expl s.qt)

/-- `u` is in the session opened from `s`, after `n` MCUs with these codes. -/
structure SessionAt (s : State) (m : ColorMode) (expl : Bool) (codes : List Bits) (n : Nat) (u : State) : Prop where
  slots : u.slots = s.slots
  written : u.written = s.written
  sqt : u.sqt = sessionTables expl s.qt
  ready : u.encState = .ready
  total : u.mcuTotal.toNat = mcusOf s
  count : u.mcuCount.toNat = n
  count_le : n ≤ mcusOf s
  packer : u.packer = { emptyPacker.putAll codes with out := [] }
  stream : u.stream = headerOf s m expl ++ (emptyPacker.putAll codes).out
  outCount : u.outCount = BitVec.ofNat 32 u.stream.length

/-- `t` is the session closed after `n` MCUs with these codes. -/
structure SessionClosed (s : State) (m : ColorMode) (expl : Bool) (codes : List Bits) (n : Nat) (t : State) : Prop where
  stream : t.stream = headerOf s m expl ++ scanBytes codes ++ eoi
  closed : t.encState = .closed
  outCount : t.outCount = BitVec.ofNat 32 t.stream.length
  count_le : n ≤ mcusOf s
  incomplete : t.incomplete = decide (n < mcusOf s)

theorem mcuTotalOf_toNat {s : State} (hw : dimensionOk s.sampledWidth = true) (hh : dimensionOk s.sampledHeight = true) :
    (mcuTotalOf s.sampledWidth.toNat s.sampledHeight.toNat).toNat = mcusOf s := by
  obtain ⟨-, hw⟩ := (dimensionOk_iff _).1 hw
  obtain ⟨-, hh⟩ := (dimensionOk_iff _).1 hh
  rw [mcuTotalOf, BitVec.toNat_ofNat]
  refine Nat.mod_eq_of_lt ?_
  calc (s.sampledWidth.toNat + 7) / 8 * ((s.sampledHeight.toNat + 7) / 8) ≤ 8192 * 8192 := by gcongr <;> omega
    _ < 2 ^ 32 := by decide

/-- `ENCRST` opens the session. -/
theorem sessionAt_of_encrst {s u : State} {expl : Bool} {m : ColorMode} (he : exec (.encrst expl (modeField m)) s = .next u)
    (hidle : u.engine = .idle) (hcode : u.errcode = .none) :
    SessionAt s m expl [] 0 u ∧ u.pred0 = 0 ∧ u.pred1 = 0 ∧ u.pred2 = 0 := by
  obtain h | ⟨m', hm, hw, hh, -, h⟩ := exec_encrst_cases expl (modeField m) s
  · cases h.symm.trans he
    exact ErrorCode.noConfusion hcode
  · cases ((colorMode_eq_some_iff _ m).2 rfl).symm.trans hm
    cases h.symm.trans he
    obtain ⟨answers, draws, h⟩ := offer_of_success hidle hcode
    rw [h]
    refine ⟨⟨rfl, rfl, rfl, rfl, mcuTotalOf_toNat hw hh, rfl, Nat.zero_le _, rfl, ?_, ?_⟩, rfl, rfl, rfl⟩
    · exact (List.append_nil _).symm
    · exact BitVec.zero_add _

/-- The codes of one more MCU, packed after those before. -/
theorem SessionAt.emitBlocks {s u t : State} {expl : Bool} {m : ColorMode} {codes : List Bits} {n : Nat}
    (hu : SessionAt s m expl codes n u) (more : List Bits) {p0 p1 p2 : S16} (ht : t = u.emitBlocks more p0 p1 p2)
    (hcount : u.mcuCount.toNat < u.mcuTotal.toNat) (hidle : t.engine = .idle) (hcode : t.errcode = .none) :
    SessionAt s m expl (codes ++ more) (n + 1) t ∧ t.pred0 = p0 ∧ t.pred1 = p1 ∧ t.pred2 = p2 := by
  subst ht
  obtain ⟨answers, draws, h⟩ := offer_of_success hidle hcode
  have hpack : emptyPacker.putAll (codes ++ more) =
      { u.packer.putAll more with out := (emptyPacker.putAll codes).out ++ (u.packer.putAll more).out } := by
    rw [putAll_append, hu.packer]
    exact putAll_out _ _ _ _
  have hn : n < mcusOf s := by
    rw [← hu.count, ← hu.total]
    exact hcount
  rw [State.emitBlocks, h]
  refine ⟨⟨hu.slots, hu.written, hu.sqt, hu.ready, hu.total, ?_, hn, ?_, ?_, ?_⟩, rfl, rfl, rfl⟩
  · have hlt := u.mcuTotal.isLt
    have hcount' := hu.count
    show (u.mcuCount + 1).toNat = n + 1
    rw [BitVec.toNat_add, show (1 : Word).toNat = 1 from rfl, Nat.mod_eq_of_lt (by omega), hcount']
  · rw [hpack]
    rfl
  · rw [hpack]
    exact (congrArg (· ++ _) hu.stream).trans (List.append_assoc _ _ _)
  · show u.outCount + _ = BitVec.ofNat 32 (u.stream ++ _).length
    rw [hu.outCount, List.length_append, BitVec.ofNat_add]

/-- `ENCFIN` closes the session. -/
theorem SessionAt.close {s u t : State} {expl : Bool} {m : ColorMode} {codes : List Bits} {n : Nat}
    (hu : SessionAt s m expl codes n u) (he : exec .encfin u = .next t) (hidle : t.engine = .idle) (hcode : t.errcode = .none) :
    SessionClosed s m expl codes n t := by
  obtain ⟨-, h⟩ | ⟨hne, -⟩ := exec_encfin_cases u
  · cases h.symm.trans he
    obtain ⟨answers, draws, h⟩ := offer_of_success hidle hcode
    have hflush : flushBytes u.bitacc u.bitcnt = flushBytes (emptyPacker.putAll codes).acc (emptyPacker.putAll codes).cnt :=
      congrArg (fun p : Packer => flushBytes p.acc p.cnt) hu.packer
    rw [h]
    refine ⟨?_, rfl, ?_, hu.count_le, ?_⟩
    · show u.stream ++ (flushBytes u.bitacc u.bitcnt ++ eoi) = _
      rw [hflush, hu.stream, ← List.append_assoc, List.append_assoc (headerOf s m expl)]
      rfl
    · show u.outCount + BitVec.ofNat 32 (flushBytes u.bitacc u.bitcnt ++ eoi).length =
        BitVec.ofNat 32 (u.stream ++ (flushBytes u.bitacc u.bitcnt ++ eoi)).length
      rw [hu.outCount, List.length_append (as := u.stream), BitVec.ofNat_add]
    · show decide (u.mcuCount.toNat < u.mcuTotal.toNat) = _
      rw [hu.count, hu.total]
  · exact absurd hu.ready hne

/-! ### The predictors between blocks -/

/-- A quantized value fits its predictor (R136); the factor 0 has the quotient 0. -/
theorem toInt_ofInt_quantize (c : S16) (f : Nat) : (BitVec.ofInt 16 (quantize c.toInt f)).toInt = quantize c.toInt f := by
  have hlo : -32768 ≤ c.toInt := BitVec.le_toInt c
  have hhi : c.toInt < 32768 := BitVec.toInt_lt
  have hbounds : -32768 ≤ quantize c.toInt f ∧ quantize c.toInt f ≤ 32767 := by
    obtain rfl | hf := Nat.eq_zero_or_pos f
    · simp [quantize]
    · obtain ⟨hge, hle⟩ := quantize_between c.toInt hf
      omega
  exact BitVec.toInt_ofInt_eq_self (w := 16) (by decide) (by omega) (by omega)

/-- A block that is coded, with its codes and the value its predictor takes (R176, R177). -/
theorem codes_of_prepared {b : Block} {t : Table} {pred : S16} {p : Prepared} (h : prepareBlock b t pred = some p) (c : CodeClass) :
    codeBlock p c = componentCodes c t pred.toInt b ∧ (BitVec.ofInt 16 p.dc).toInt = (zigzag b t)[0] := by
  obtain ⟨rfl, -⟩ := prepareBlock_some h
  refine ⟨rfl, ?_⟩
  rw [zigzag_zero]
  exact toInt_ofInt_quantize b[0] t[0].toNat

/-! ### The blocks of a scan -/

/-- A Gray session from its `n`-th MCU on (R180, R183). -/
theorem closed_of_grayBlocks {s : State} {expl : Bool} (as : List OpField) (hw : ∀ a ∈ as, s.slotWritten a = true) {codes : List Bits}
    {n : Nat} {u t : State} (hu : SessionAt s .gray expl codes n u) (ht : runAll (as.map .encblk1 ++ [.encfin]) u = some t) :
    SessionClosed s .gray expl (codes ++ grayScan (sessionTables expl s.qt) u.pred0.toInt (as.map fun a => s.slots[a]))
      (n + as.length) t := by
  induction as generalizing u codes n with
  | nil =>
      obtain ⟨v, he, hidle, hcode, hv⟩ := runAll_cons ht
      cases hv
      simpa [grayScan] using hu.close he hidle hcode
  | cons a as ih =>
      obtain ⟨v, he, hidle, hcode, hv⟩ := runAll_cons ht
      have hwa : u.slotWritten a = true := by
        rw [State.slotWritten, hu.written]
        exact hw a List.mem_cons_self
      obtain ⟨code, hcases, k, h⟩ | ⟨-, -, hcount, ⟨hun, -⟩ | ⟨-, p, hp, h⟩⟩ := exec_encblk1_cases a u
      · cases h.symm.trans he
        rcases hcases with rfl | rfl | rfl <;> cases hcode
      · exact Bool.noConfusion (hun.symm.trans hwa)
      · cases h.symm.trans he
        obtain ⟨hat, hpred, -⟩ := hu.emitBlocks _ rfl hcount hidle hcode
        have hnext := ih (fun b hb => hw b (List.mem_cons_of_mem a hb)) hat hv
        rw [State.slot, hu.slots, hu.sqt] at hp
        obtain ⟨hcodes, hdc⟩ := codes_of_prepared hp .luma
        rw [hpred, hdc, hcodes, List.append_assoc] at hnext
        rw [List.length_cons, ← Nat.succ_add_eq_add_succ]
        exact hnext

/-- A YCbCr444 session from its `n`-th MCU on (R183, R185). -/
theorem closed_of_colourBlocks {s : State} {expl : Bool} (as : List (OpField × OpField × OpField))
    (hw : ∀ a ∈ as, s.slotWritten a.1 = true ∧ s.slotWritten a.2.1 = true ∧ s.slotWritten a.2.2 = true) {codes : List Bits}
    {n : Nat} {u t : State} (hu : SessionAt s .ycc444 expl codes n u)
    (ht : runAll (as.map (fun a => .encblk3 a.1 a.2.1 a.2.2) ++ [.encfin]) u = some t) :
    SessionClosed s .ycc444 expl (codes ++ colourScan (sessionTables expl s.qt) u.pred0.toInt u.pred1.toInt u.pred2.toInt
      (as.map fun a => (s.slots[a.1], s.slots[a.2.1], s.slots[a.2.2]))) (n + as.length) t := by
  induction as generalizing u codes n with
  | nil =>
      obtain ⟨v, he, hidle, hcode, hv⟩ := runAll_cons ht
      cases hv
      simpa [colourScan] using hu.close he hidle hcode
  | cons abc as ih =>
      obtain ⟨a, b, c⟩ := abc
      obtain ⟨v, he, hidle, hcode, hv⟩ := runAll_cons ht
      have hwritten : (u.slotWritten a && u.slotWritten b && u.slotWritten c) = true := by
        rw [State.slotWritten, State.slotWritten, State.slotWritten, hu.written]
        obtain ⟨ha, hb, hc⟩ := hw (a, b, c) List.mem_cons_self
        exact Bool.and_eq_true_iff.2 ⟨Bool.and_eq_true_iff.2 ⟨ha, hb⟩, hc⟩
      obtain ⟨code, hcases, k, h⟩ | ⟨-, -, hcount, ⟨hun, -⟩ | ⟨-, pY, pB, pR, hY, hB, hR, h⟩⟩ := exec_encblk3_cases a b c u
      · cases h.symm.trans he
        rcases hcases with rfl | rfl | rfl <;> cases hcode
      · exact Bool.noConfusion (hun.symm.trans hwritten)
      · cases h.symm.trans he
        obtain ⟨hat, hpred0, hpred1, hpred2⟩ := hu.emitBlocks _ rfl hcount hidle hcode
        have hnext := ih (fun x hx => hw x (List.mem_cons_of_mem (a, b, c) hx)) hat hv
        rw [State.slot, hu.slots, hu.sqt] at hY hB hR
        obtain ⟨hcodesY, hdcY⟩ := codes_of_prepared hY .luma
        obtain ⟨hcodesB, hdcB⟩ := codes_of_prepared hB .chroma
        obtain ⟨hcodesR, hdcR⟩ := codes_of_prepared hR .chroma
        rw [hpred0, hpred1, hpred2, hdcY, hdcB, hdcR, hcodesY, hcodesB, hcodesR, List.append_assoc] at hnext
        rw [List.length_cons, ← Nat.succ_add_eq_add_succ]
        exact hnext

end Sys2Proof.Machine

/-! ### The obligation -/

open Sys2Proof Sys2Proof.Machine

/-- Settles O57: `ENCRST` opens the session, each block command adds the codes of its MCU, `ENCFIN` closes. -/
theorem sessionStream : Obligations.SessionStream := by
  unfold Obligations.SessionStream
  intro expl s t w h total sqt
  refine ⟨fun as hw ht => ?_, fun as hw ht => ?_⟩
  · obtain ⟨u, he, hidle, hcode, hu⟩ := runAll_cons ht
    obtain ⟨hat, hpred, -⟩ := sessionAt_of_encrst (m := .gray) he hidle hcode
    have hclosed := closed_of_grayBlocks as hw hat hu
    rw [hpred, Nat.zero_add] at hclosed
    exact ⟨hclosed.stream, hclosed.closed, hclosed.outCount, hclosed.count_le, hclosed.incomplete⟩
  · obtain ⟨u, he, hidle, hcode, hu⟩ := runAll_cons ht
    obtain ⟨hat, hpred0, hpred1, hpred2⟩ := sessionAt_of_encrst (m := .ycc444) he hidle hcode
    have hclosed := closed_of_colourBlocks as hw hat hu
    rw [hpred0, hpred1, hpred2, Nat.zero_add] at hclosed
    exact ⟨hclosed.stream, hclosed.closed, hclosed.outCount, hclosed.count_le, hclosed.incomplete⟩

end

section
/-! SUPPORT. The resampler's bounds (spec/42_resampler.md R153, R156). -/

namespace Sys2Proof.Machine

/-- A sample survives in a slot entry. -/
theorem toInt_ofInt_sample {v : Int} (hlo : 0 ≤ v) (hhi : v ≤ 255) : (BitVec.ofInt 16 v).toInt = v :=
  BitVec.toInt_ofInt_eq_self (w := 16) (by decide) (by omega) (by omega)

/-! ### The downsampler -/

theorem superSample_bounds {q : Vector Block 4} (hq : ∀ k : Fin 4, Samples q[k]) (X Y : Fin 16) :
    0 ≤ superSample q X Y ∧ superSample q X Y ≤ 255 :=
  hq ⟨2 * (Y.val / 8) + X.val / 8, by omega⟩ ⟨8 * (Y.val % 8) + X.val % 8, by omega⟩

/-- The sum of the 2x2 neighbourhood of a downsampled sample (R151). -/
def neighbourhood (q : Vector Block 4) (i : Fin 64) : Int :=
  superSample q ⟨2 * (i.val % 8), by omega⟩ ⟨2 * (i.val / 8), by omega⟩ +
  superSample q ⟨2 * (i.val % 8) + 1, by omega⟩ ⟨2 * (i.val / 8), by omega⟩ +
  superSample q ⟨2 * (i.val % 8), by omega⟩ ⟨2 * (i.val / 8) + 1, by omega⟩ +
  superSample q ⟨2 * (i.val % 8) + 1, by omega⟩ ⟨2 * (i.val / 8) + 1, by omega⟩

theorem neighbourhood_bounds {q : Vector Block 4} (hq : ∀ k : Fin 4, Samples q[k]) (i : Fin 64) :
    0 ≤ neighbourhood q i ∧ neighbourhood q i ≤ 1020 := by
  have h := superSample_bounds hq
  have h00 := h ⟨2 * (i.val % 8), by omega⟩ ⟨2 * (i.val / 8), by omega⟩
  have h10 := h ⟨2 * (i.val % 8) + 1, by omega⟩ ⟨2 * (i.val / 8), by omega⟩
  have h01 := h ⟨2 * (i.val % 8), by omega⟩ ⟨2 * (i.val / 8) + 1, by omega⟩
  have h11 := h ⟨2 * (i.val % 8) + 1, by omega⟩ ⟨2 * (i.val / 8) + 1, by omega⟩
  unfold neighbourhood
  omega

theorem downBlock_toInt {q : Vector Block 4} (hq : ∀ k : Fin 4, Samples q[k]) (i : Fin 64) :
    ((downBlock q)[i]).toInt = (neighbourhood q i + 2) / 4 := by
  have hn := neighbourhood_bounds hq i
  have hdown : downSample q i = (neighbourhood q i + 2) / 4 := rfl
  rw [downBlock, Fin.getElem_fin, Vector.getElem_ofFn, hdown]
  exact toInt_ofInt_sample (by omega) (by omega)

/-- A sum over the positions of a super-block's side, in pairs. -/
theorem sum_pairs (g : Fin 16 → Int) : ∑ X, g X = ∑ x : Fin 8, (g ⟨2 * x.val, by omega⟩ + g ⟨2 * x.val + 1, by omega⟩) := by
  rw [← Fintype.sum_equiv (finProdFinEquiv (m := 8) (n := 2)) (fun p => g (finProdFinEquiv p)) g fun _ => rfl, Fintype.sum_prod_type]
  refine Finset.sum_congr rfl fun x _ => ?_
  rw [Fin.sum_univ_two]
  congr 2 <;> exact Fin.ext (by simp only [finProdFinEquiv_apply_val]; omega)

/-- The neighbourhoods make up the super-block. -/
theorem sum_neighbourhood (q : Vector Block 4) : ∑ i, neighbourhood q i = ∑ X : Fin 16, ∑ Y : Fin 16, superSample q X Y := by
  have hpairs (X : Fin 16) := sum_pairs (superSample q X)
  rw [sum_pairs]
  simp only [hpairs, ← Finset.sum_add_distrib]
  rw [Finset.sum_comm, ← sum_raster]
  refine Finset.sum_congr rfl fun i _ => ?_
  simp only [neighbourhood, row, col]
  ring

/-! ### The upsampler -/

theorem superSample_upQuadrants {p : Block} (X Y : Fin 16) :
    superSample (upQuadrants p) X Y = (BitVec.ofInt 16 (upSample p X Y)).toInt := by
  have hX : (⟨(8 * ((2 * (Y.val / 8) + X.val / 8) % 2) + (8 * (Y.val % 8) + X.val % 8) % 8) % 16, by omega⟩ : Fin 16) = X :=
    Fin.ext (by simp only; omega)
  have hY : (⟨(8 * ((2 * (Y.val / 8) + X.val / 8) / 2) + (8 * (Y.val % 8) + X.val % 8) / 8) % 16, by omega⟩ : Fin 16) = Y :=
    Fin.ext (by simp only; omega)
  simp only [superSample, upQuadrants_getElem p (show 2 * (Y.val / 8) + X.val / 8 < 4 by omega), Vector.getElem_ofFn, hX, hY]

/-- Between any bounds of the source samples at distance at most 1 in each direction. -/
theorem upSample_between {p : Block} {X Y : Fin 16} {lo hi : Int}
    (h : ∀ x y : Fin 8, ((x.val : Int) - X.val / 2).natAbs ≤ 1 → ((y.val : Int) - Y.val / 2).natAbs ≤ 1 →
      lo ≤ (p[8 * y.val + x.val]).toInt ∧ (p[8 * y.val + x.val]).toInt ≤ hi) : lo ≤ upSample p X Y ∧ upSample p X Y ≤ hi := by
  have hhalf (X : Fin 16) : (((halfPos X).val : Int) - X.val / 2).natAbs ≤ 1 := by simp [halfPos]
  have hnext (X : Fin 16) : (((neighbour X).val : Int) - X.val / 2).natAbs ≤ 1 := by
    simp only [neighbour]
    split <;> omega
  have h1 := h (halfPos X) (halfPos Y) (hhalf X) (hhalf Y)
  have h2 := h (neighbour X) (halfPos Y) (hnext X) (hhalf Y)
  have h3 := h (halfPos X) (neighbour Y) (hhalf X) (hnext Y)
  have h4 := h (neighbour X) (neighbour Y) (hnext X) (hnext Y)
  simp only [upSample, blockSample]
  omega

theorem upSample_bounds {p : Block} (hp : Samples p) (X Y : Fin 16) : 0 ≤ upSample p X Y ∧ upSample p X Y ≤ 255 :=
  upSample_between fun x y _ _ => hp ⟨8 * y.val + x.val, by omega⟩

end Sys2Proof.Machine

/-! ### The obligation -/

open Sys2Proof Sys2Proof.Machine

/-- Settles O37: the neighbourhoods make up the super-block, and each output is rounded by at most 2 of its 4. -/
theorem resamplerProperties : Obligations.ResamplerProperties := by
  unfold Obligations.ResamplerProperties
  intro nb
  refine ⟨fun q hq => ?_, fun p hp => ⟨fun k i => ?_, fun X Y lo hi h => ?_⟩⟩
  · have hdown := downBlock_toInt hq
    have hnb := neighbourhood_bounds hq
    have hround (i : Fin 64) : -1 ≤ 4 * ((downBlock q)[i]).toInt - neighbourhood q i ∧
        4 * ((downBlock q)[i]).toInt - neighbourhood q i ≤ 2 := by
      rw [hdown i]
      omega
    refine ⟨fun i => ?_, fun c hc i => ?_, fun i => ?_, ?_, fun q' hq' hle i => ?_⟩
    · have := hnb i
      rw [hdown i]
      omega
    · rw [hdown i, neighbourhood, hc, hc, hc, hc]
      omega
    · have h : 4 * ((downBlock q)[i]).toInt - nb q i = 4 * ((downBlock q)[i]).toInt - neighbourhood q i := rfl
      have := hround i
      rw [h]
      simp only [List.mem_cons, List.not_mem_nil, or_false]
      omega
    · rw [← sum_neighbourhood, Finset.mul_sum, ← Finset.sum_sub_distrib]
      have hlo := Finset.card_nsmul_le_sum Finset.univ _ _ fun i _ => (hround i).1
      have hhi := Finset.sum_le_card_nsmul Finset.univ _ _ fun i _ => (hround i).2
      rw [Finset.card_univ, Fintype.card_fin, nsmul_eq_mul] at hlo hhi
      push_cast at hlo hhi
      exact abs_le.2 (by omega)
    · rw [hdown i, downBlock_toInt hq' i]
      have : neighbourhood q i ≤ neighbourhood q' i := by
        unfold neighbourhood
        gcongr <;> exact hle _ _
      omega
  · have hsample : (upQuadrants p)[k][i] = BitVec.ofInt 16 (upSample p ⟨(8 * (k.val % 2) + i.val % 8) % 16, by omega⟩
        ⟨(8 * (k.val / 2) + i.val / 8) % 16, by omega⟩) := by
      simp [upQuadrants_getElem p k.isLt]
    obtain ⟨hlo, hhi⟩ := upSample_bounds hp ⟨(8 * (k.val % 2) + i.val % 8) % 16, by omega⟩
      ⟨(8 * (k.val / 2) + i.val / 8) % 16, by omega⟩
    rw [hsample, toInt_ofInt_sample hlo hhi]
    exact ⟨hlo, hhi⟩
  · obtain ⟨hlo, hhi⟩ := upSample_bounds hp X Y
    rw [superSample_upQuadrants, toInt_ofInt_sample hlo hhi]
    exact upSample_between h

end

section
/-! SUPPORT. The seven constants are rounded cosines (spec/40_transform.md R112). Each cosine is bounded through the double angle,
`cos 2a = 2 (cos a)^2 - 1`, from `cos (pi/2) = 0` down to the sixteenths, with 16 bits more than the constants have. -/

namespace Sys2Proof.Machine

/-- The angle `k*pi/16`. -/
noncomputable def angle (k : Nat) : ℝ := k * Real.pi / 16

theorem two_mul_angle (k : Nat) : 2 * angle k = angle (2 * k) := by
  simp only [angle]
  push_cast
  ring

theorem cos_angle_eight : Real.cos (angle 8) = 0 := by
  rw [← Real.cos_pi_div_two, angle]
  congr 1
  push_cast
  ring

theorem cos_angle_of_add {k l : Nat} (h : k + l = 16) : Real.cos (angle l) = -Real.cos (angle k) := by
  have hl : (l : ℝ) = 16 - k := eq_sub_iff_add_eq'.2 (by exact_mod_cast h)
  rw [← Real.cos_pi_sub, angle, angle, hl]
  congr 1
  ring

theorem cos_angle_nonneg {k : Nat} (h : k ≤ 8) : 0 ≤ Real.cos (angle k) := by
  have hk : (k : ℝ) ≤ 8 := by exact_mod_cast h
  have hpi := Real.pi_pos
  refine Real.cos_nonneg_of_neg_pi_div_two_le_of_le ?_ ?_ <;> unfold angle
  · have : 0 ≤ (k : ℝ) * Real.pi / 16 := by positivity
    linarith
  · have : (k : ℝ) * Real.pi ≤ 8 * Real.pi := by gcongr
    linarith

/-- The scale of the finer bounds. -/
def fineScale : Int := 2 ^ 255 * 2 ^ 16

/-- `cos a` times the scale lies between two integers. -/
def CosBetween (a : ℝ) (lo hi : Int) : Prop := (lo : ℝ) ≤ Real.cos a * fineScale ∧ Real.cos a * fineScale ≤ hi

/-- From bounds of the cosine of the double angle. -/
theorem cosBetween_of_double {k : Nat} {lo hi lo2 hi2 : Int} (hk : k ≤ 8) (h : CosBetween (angle (2 * k)) lo2 hi2)
    (hpos : 0 ≤ hi) (hlo : 2 * lo ^ 2 - fineScale ^ 2 ≤ lo2 * fineScale) (hhi : hi2 * fineScale ≤ 2 * hi ^ 2 - fineScale ^ 2) :
    CosBetween (angle k) lo hi := by
  obtain ⟨h2lo, h2hi⟩ := h
  have hscale : (0 : ℝ) ≤ fineScale := by exact_mod_cast (by decide : (0 : Int) ≤ fineScale)
  have hx : 0 ≤ Real.cos (angle k) * fineScale := mul_nonneg (cos_angle_nonneg hk) hscale
  have hdouble : Real.cos (angle (2 * k)) * fineScale * fineScale = 2 * (Real.cos (angle k) * fineScale) ^ 2 - (fineScale : ℝ) ^ 2 := by
    rw [← two_mul_angle, Real.cos_two_mul]
    ring
  have h2lo := mul_le_mul_of_nonneg_right h2lo hscale
  have h2hi := mul_le_mul_of_nonneg_right h2hi hscale
  have hlo : (2 * lo ^ 2 - fineScale ^ 2 : ℝ) ≤ lo2 * fineScale := by exact_mod_cast hlo
  have hhi : (hi2 * fineScale : ℝ) ≤ 2 * hi ^ 2 - fineScale ^ 2 := by exact_mod_cast hhi
  rw [hdouble] at h2lo h2hi
  constructor
  · exact (abs_le_of_sq_le_sq' (by linarith) hx).2
  · exact (abs_le_of_sq_le_sq' (by linarith) (by exact_mod_cast hpos)).2

theorem CosBetween.reflect {k l : Nat} {lo hi : Int} (hk : k + l = 16) (h : CosBetween (angle k) lo hi) :
    CosBetween (angle l) (-hi) (-lo) := by
  obtain ⟨hlo, hhi⟩ := h
  rw [CosBetween, cos_angle_of_add hk]
  push_cast
  constructor <;> linarith

/-- Sixteen more bits of each constant, as the signed distance to the constant. -/
def cosRest : Nat → Int
  | 1 => -13763
  | 2 => 21274
  | 3 => 8099
  | 4 => -23170
  | 5 => -16439
  | 6 => -18807
  | 7 => -11960
  | _ => 0

/-- The constant with these bits. -/
def cosFine (k : Nat) : Int := cosK k * 2 ^ 16 + cosRest k

theorem cosBetween_four : CosBetween (angle 4) (cosFine 4 - 1) (cosFine 4 + 1) := by
  have h : CosBetween (angle (2 * 4)) 0 0 := by
    rw [CosBetween, show 2 * 4 = 8 from rfl, cos_angle_eight]
    simp
  exact cosBetween_of_double (by decide) h (by decide) (by decide) (by decide)

theorem cosBetween_two : CosBetween (angle 2) (cosFine 2 - 2) (cosFine 2 + 2) :=
  cosBetween_of_double (by decide) cosBetween_four (by decide) (by decide) (by decide)

theorem cosBetween_six : CosBetween (angle 6) (cosFine 6 - 2) (cosFine 6 + 2) :=
  cosBetween_of_double (by decide) (cosBetween_four.reflect (by decide)) (by decide) (by decide) (by decide)

/-- All seven cosines, to within 4 at the finer scale. -/
theorem cosBetween_fine {k : Nat} (h1 : 1 ≤ k) (h7 : k ≤ 7) : CosBetween (angle k) (cosFine k - 4) (cosFine k + 4) := by
  have wider {a : ℝ} {f e : Int} (he : e ≤ 4) (h : CosBetween a (f - e) (f + e)) : CosBetween a (f - 4) (f + 4) := by
    obtain ⟨hlo, hhi⟩ := h
    have he : (e : ℝ) ≤ 4 := by exact_mod_cast he
    push_cast at hlo hhi
    unfold CosBetween
    push_cast
    constructor <;> linarith
  interval_cases k
  · exact cosBetween_of_double (by decide) cosBetween_two (by decide) (by decide) (by decide)
  · exact wider (by decide) cosBetween_two
  · exact cosBetween_of_double (by decide) cosBetween_six (by decide) (by decide) (by decide)
  · exact wider (by decide) cosBetween_four
  · exact cosBetween_of_double (by decide) (cosBetween_six.reflect (by decide)) (by decide) (by decide) (by decide)
  · exact wider (by decide) cosBetween_six
  · exact cosBetween_of_double (by decide) (cosBetween_two.reflect (by decide)) (by decide) (by decide) (by decide)

/-- The 16 more bits are less than half a unit of the constant, by more than the bounds' width. -/
theorem cosRest_bounds (k : Nat) : -32764 ≤ cosRest k ∧ cosRest k ≤ 32764 := by
  unfold cosRest
  split <;> decide

theorem cosK_near {k : Nat} (h1 : 1 ≤ k) (h7 : k ≤ 7) : |(cosK k : ℝ) - Real.cos (angle k) * 2 ^ 255| ≤ 1 / 2 := by
  obtain ⟨hlo, hhi⟩ := cosBetween_fine h1 h7
  obtain ⟨hrlo, hrhi⟩ := cosRest_bounds k
  have hrlo : (-32764 : ℝ) ≤ cosRest k := by exact_mod_cast hrlo
  have hrhi : (cosRest k : ℝ) ≤ 32764 := by exact_mod_cast hrhi
  have hscale : Real.cos (angle k) * fineScale = Real.cos (angle k) * 2 ^ 255 * 65536 := by
    rw [fineScale]
    push_cast
    ring
  rw [hscale] at hlo hhi
  simp only [cosFine] at hlo hhi
  push_cast at hlo hhi
  rw [abs_le]
  constructor <;> linarith

end Sys2Proof.Machine

/-! ### The obligation -/

open Sys2Proof Sys2Proof.Machine

/-- Settles O27. -/
theorem cosineConstantsRounded : Obligations.CosineConstantsRounded := by
  unfold Obligations.CosineConstantsRounded
  exact fun k h1 h7 => cosK_near h1 h7

end

section
/-! SUPPORT. The transforms near the real ones (spec/40_transform.md R110-R116): every basis factor is within 1/2 of
`2^256 * 1/2 * C(u) * cos((2x+1) u pi/16)`, so an accumulator is near the real sum, and the rounding is near that. -/

namespace Sys2Proof.Machine

/-! ### The basis -/

theorem cos_angle_mod (n : Nat) : Real.cos (angle (n % 32)) = Real.cos (angle n) := by
  have hn : (n : ℝ) = (n % 32 : Nat) + 32 * (n / 32 : Nat) := by exact_mod_cast (Nat.mod_add_div n 32).symm
  have h : angle n = angle (n % 32) + (n / 32 : Nat) * (2 * Real.pi) := by
    rw [angle, angle, hn]
    ring
  rw [h, Real.cos_add_nat_mul_two_pi]

theorem cos_angle_fold {n : Nat} (h : n ≤ 32) : Real.cos (angle (foldAngle n)) = Real.cos (angle n) := by
  unfold foldAngle
  split
  · rw [← Real.cos_two_pi_sub (angle n), angle, angle]
    congr 1
    push_cast [h]
    ring
  · rfl

/-- The factor `C(k)` of R110. -/
noncomputable def normalizer (k : Fin 8) : ℝ := if k = 0 then 1 / √2 else 1

/-- The basis function of R110, of one dimension. -/
noncomputable def realBasis (u x : Fin 8) : ℝ := 1 / 2 * normalizer u * Real.cos ((2 * x.val + 1) * u.val * Real.pi / 16)

/-- The folded angle of a basis function other than the constant one is no multiple of `pi`. -/
theorem foldAngle_bounds : ∀ u x : Fin 8, u ≠ 0 →
    1 ≤ foldAngle ((2 * x.val + 1) * u.val % 32) ∧ foldAngle ((2 * x.val + 1) * u.val % 32) ≤ 15 := by
  decide

/-- The signed constant for an angle up to `pi`. -/
theorem signed_cosK_near {m : Nat} (h1 : 1 ≤ m) (h15 : m ≤ 15) :
    |((if m ≤ 8 then cosK m else -cosK (16 - m) : Int) : ℝ) - Real.cos (angle m) * 2 ^ 255| ≤ 1 / 2 := by
  by_cases h8 : m = 8
  · subst h8
    rw [cos_angle_eight]
    norm_num [cosK]
  · split
    · exact cosK_near h1 (by omega)
    · have h := cosK_near (k := 16 - m) (by omega) (by omega)
      rw [cos_angle_of_add (k := 16 - m) (by omega), ← abs_neg]
      push_cast
      rw [show -(-(cosK (16 - m) : ℝ) - -Real.cos (angle (16 - m)) * 2 ^ 255) = cosK (16 - m) - Real.cos (angle (16 - m)) * 2 ^ 255 by ring]
      exact h

/-- Every basis factor is the real one times `2^256`, to within 1/2 (R112). -/
theorem basis_near (u x : Fin 8) : |(basis u x : ℝ) - realBasis u x * 2 ^ 256| ≤ 1 / 2 := by
  unfold basis realBasis normalizer
  by_cases hu : u = 0
  · have h := cosK_near (k := 4) (by decide) (by decide)
    have hcos : Real.cos (angle 4) = 1 / √2 := by
      rw [angle, show ((4 : Nat) : ℝ) * Real.pi / 16 = Real.pi / 4 by push_cast; ring, Real.cos_pi_div_four]
      field_simp
      norm_num
    rw [if_pos hu, if_pos hu, hu]
    rw [hcos] at h
    simp only [Fin.val_zero, Nat.cast_zero, mul_zero, zero_mul, zero_div, Real.cos_zero, mul_one]
    rw [show 1 / 2 * (1 / √2) * (2 : ℝ) ^ 256 = 1 / √2 * 2 ^ 255 by ring]
    exact h
  · obtain ⟨h1, h15⟩ := foldAngle_bounds u x hu
    have hcos : Real.cos (angle (foldAngle ((2 * x.val + 1) * u.val % 32))) = Real.cos ((2 * x.val + 1) * u.val * Real.pi / 16) := by
      rw [cos_angle_fold (Nat.mod_lt _ (by decide)).le, cos_angle_mod, angle]
      push_cast
      rfl
    have h := signed_cosK_near h1 h15
    rw [hcos] at h
    rw [if_neg hu, if_neg hu, mul_one, show 1 / 2 * Real.cos ((2 * x.val + 1) * u.val * Real.pi / 16) * (2 : ℝ) ^ 256 =
      Real.cos ((2 * x.val + 1) * u.val * Real.pi / 16) * 2 ^ 255 by ring]
    exact h

theorem abs_realBasis_le (u x : Fin 8) : |realBasis u x| ≤ 1 / 2 := by
  have hcos := Real.abs_cos_le_one ((2 * x.val + 1) * u.val * Real.pi / 16)
  have hnorm : 0 ≤ normalizer u ∧ normalizer u ≤ 1 := by
    unfold normalizer
    split
    · have : (1 : ℝ) ≤ √2 := Real.one_le_sqrt.2 (by norm_num)
      exact ⟨by positivity, by rw [div_le_one (by positivity)]; exact this⟩
    · norm_num
  rw [realBasis, abs_mul, abs_mul, abs_of_nonneg hnorm.1, abs_of_pos (by norm_num : (0 : ℝ) < 1 / 2)]
  nlinarith [hnorm.1, hnorm.2, abs_nonneg (Real.cos ((2 * x.val + 1) * u.val * Real.pi / 16))]

/-! ### The sums -/

theorem abs_scaled_realBasis_le (u x : Fin 8) : |realBasis u x * 2 ^ 256| ≤ 2 ^ 255 := by
  rw [abs_mul, abs_of_pos (by positivity : (0 : ℝ) < 2 ^ 256)]
  calc |realBasis u x| * 2 ^ 256 ≤ 1 / 2 * 2 ^ 256 := by gcongr; exact abs_realBasis_le u x
    _ = 2 ^ 255 := by norm_num

/-- The error of one product of two basis factors. -/
theorem basis_mul_near (u x v y : Fin 8) :
    |((basis u x * basis v y : Int) : ℝ) - realBasis u x * realBasis v y * (2 ^ 256 * 2 ^ 256)| ≤ 2 ^ 256 := by
  have ha := basis_near u x
  have hb := basis_near v y
  have hA := abs_scaled_realBasis_le u x
  have hB := abs_scaled_realBasis_le v y
  push_cast
  generalize (basis u x : ℝ) = a at *
  generalize (basis v y : ℝ) = b at *
  have hsplit : a * b - realBasis u x * realBasis v y * (2 ^ 256 * 2 ^ 256) =
      (a - realBasis u x * 2 ^ 256) * (b - realBasis v y * 2 ^ 256) + (a - realBasis u x * 2 ^ 256) * (realBasis v y * 2 ^ 256) +
        realBasis u x * 2 ^ 256 * (b - realBasis v y * 2 ^ 256) := by ring
  calc |a * b - realBasis u x * realBasis v y * (2 ^ 256 * 2 ^ 256)|
      ≤ |a - realBasis u x * 2 ^ 256| * |b - realBasis v y * 2 ^ 256| + |a - realBasis u x * 2 ^ 256| * |realBasis v y * 2 ^ 256| +
          |realBasis u x * 2 ^ 256| * |b - realBasis v y * 2 ^ 256| := by
        rw [hsplit, ← abs_mul, ← abs_mul, ← abs_mul]
        exact abs_add_three _ _ _
    _ ≤ 1 / 2 * (1 / 2) + 1 / 2 * 2 ^ 255 + 2 ^ 255 * (1 / 2) := by gcongr
    _ ≤ 2 ^ 256 := by norm_num

/-- An accumulator is near the real sum: 64 products of an entry with two basis factors. -/
theorem sum_near {c W : Fin 8 → Fin 8 → Int} {R : Fin 8 → Fin 8 → ℝ} (hc : ∀ y x, |(c y x : ℝ)| ≤ 2 ^ 15)
    (hW : ∀ y x, |(W y x : ℝ) - R y x * (2 ^ 256 * 2 ^ 256)| ≤ 2 ^ 256) :
    |((∑ y, ∑ x, c y x * W y x : Int) : ℝ) - (∑ y, ∑ x, (c y x : ℝ) * R y x) * (2 ^ 256 * 2 ^ 256)| ≤ 2 ^ 21 * 2 ^ 256 := by
  have hdiff : ((∑ y, ∑ x, c y x * W y x : Int) : ℝ) - (∑ y, ∑ x, (c y x : ℝ) * R y x) * (2 ^ 256 * 2 ^ 256) =
      ∑ y, ∑ x, (c y x : ℝ) * (W y x - R y x * (2 ^ 256 * 2 ^ 256)) := by
    push_cast
    simp only [Finset.sum_mul, ← Finset.sum_sub_distrib]
    exact Finset.sum_congr rfl fun y _ => Finset.sum_congr rfl fun x _ => by ring
  have hterm (y x : Fin 8) : |(c y x : ℝ) * (W y x - R y x * (2 ^ 256 * 2 ^ 256))| ≤ 2 ^ 15 * 2 ^ 256 := by
    rw [abs_mul]
    exact mul_le_mul (hc y x) (hW y x) (abs_nonneg _) (by positivity)
  rw [hdiff]
  calc |∑ y, ∑ x, (c y x : ℝ) * (W y x - R y x * (2 ^ 256 * 2 ^ 256))|
      ≤ ∑ y : Fin 8, ∑ x : Fin 8, (2 ^ 15 * 2 ^ 256 : ℝ) :=
        (Finset.abs_sum_le_sum_abs _ _).trans (Finset.sum_le_sum fun y _ =>
          (Finset.abs_sum_le_sum_abs _ _).trans (Finset.sum_le_sum fun x _ => hterm y x))
    _ = 2 ^ 21 * 2 ^ 256 := by
        simp only [Finset.sum_const, Finset.card_univ, Fintype.card_fin, nsmul_eq_mul]
        norm_num

/-! ### The rounding -/

/-- What is near `R` times the scale is rounded to near `R`. -/
theorem roundExact_near_real {acc : Int} {R : ℝ} (h : |(acc : ℝ) - R * (2 ^ 256 * 2 ^ 256)| ≤ 2 ^ 21 * 2 ^ 256) :
    |(roundExact acc : ℝ) - R| ≤ 1 / 2 + 1 / 2 ^ 180 := by
  have hround : |(2 * (roundExact acc * (2 ^ 256 * 2 ^ 256) - acc) : ℝ)| ≤ 2 ^ 256 * 2 ^ 256 + 2 * (2 ^ 161 * 2 ^ 161) := by
    have := roundExact_near acc
    simp only [dctScale, dctTolerance] at this
    exact_mod_cast this
  rw [abs_le] at h hround ⊢
  have hscale : (0 : ℝ) < 2 ^ 256 * 2 ^ 256 := by positivity
  constructor
  · refine le_of_mul_le_mul_right ?_ hscale
    linarith
  · refine le_of_mul_le_mul_right ?_ hscale
    linarith

theorem row_col_of_val {i : Fin 64} {u v : Fin 8} (h : i.val = 8 * v.val + u.val) : row i = v ∧ col i = u := by
  constructor <;> apply Fin.ext <;> simp only [row, col] <;> omega

end Sys2Proof.Machine

/-! ### The obligations -/

open Sys2Proof Sys2Proof.Machine

/-- Settles O28: each level-shifted sample is at most 128 in magnitude. -/
theorem fdctNearRealTransform : Obligations.FdctNearRealTransform := by
  unfold Obligations.FdctNearRealTransform
  intro C b hb u v i hi
  obtain ⟨rfl, rfl⟩ := row_col_of_val hi
  have hsample (y x : Fin 8) : |(((b[8 * y.val + x.val]).toInt - 128 : Int) : ℝ)| ≤ 2 ^ 15 := by
    have := hb ⟨8 * y.val + x.val, by omega⟩
    have hle : |(b[8 * y.val + x.val]).toInt - 128| ≤ 2 ^ 15 := abs_le.2 (by simp only [Fin.getElem_fin] at this; omega)
    exact_mod_cast hle
  have hsum := sum_near hsample fun y x => basis_mul_near (col i) x (row i) y
  have hacc : fdctAcc b i = ∑ y : Fin 8, ∑ x : Fin 8, ((b[8 * y.val + x.val]).toInt - 128) * (basis (col i) x * basis (row i) y) := by
    rw [fdctAcc_eq]
    exact Finset.sum_congr rfl fun y _ => Finset.sum_congr rfl fun x _ => mul_assoc _ _ _
  have hreal : 1 / 4 * C (col i) * C (row i) * ∑ y : Fin 8, ∑ x : Fin 8, ((b[8 * y.val + x.val].toInt : ℝ) - 128) *
      Real.cos ((2 * x.val + 1) * (col i).val * Real.pi / 16) * Real.cos ((2 * y.val + 1) * (row i).val * Real.pi / 16) =
      ∑ y : Fin 8, ∑ x : Fin 8, (((b[8 * y.val + x.val]).toInt - 128 : Int) : ℝ) * (realBasis (col i) x * realBasis (row i) y) := by
    simp only [Finset.mul_sum]
    refine Finset.sum_congr rfl fun y _ => Finset.sum_congr rfl fun x _ => ?_
    simp only [realBasis, normalizer, C]
    push_cast
    ring
  rw [fdctBlock_toInt hb, hreal]
  rw [← hacc] at hsum
  exact roundExact_near_real hsum

/-- Settles O29: the level shift is 128 times the scale, and each entry is at most `2^15` in magnitude. -/
theorem idctNearRealTransform : Obligations.IdctNearRealTransform := by
  unfold Obligations.IdctNearRealTransform
  intro C b x y i hi
  obtain ⟨rfl, rfl⟩ := row_col_of_val hi
  have hentry (v u : Fin 8) : |((b[8 * v.val + u.val]).toInt : ℝ)| ≤ 2 ^ 15 := by
    have hlo := BitVec.le_toInt (b[8 * v.val + u.val])
    have hhi := BitVec.toInt_lt (x := b[8 * v.val + u.val])
    have hle : |(b[8 * v.val + u.val]).toInt| ≤ 2 ^ 15 := abs_le.2 (by omega)
    exact_mod_cast hle
  have hsum := sum_near hentry fun v u => basis_mul_near u (col i) v (row i)
  have hacc : idctAcc b i = 128 * dctScale +
      ∑ v : Fin 8, ∑ u : Fin 8, (b[8 * v.val + u.val]).toInt * (basis u (col i) * basis v (row i)) := by
    rw [idctAcc_eq]
    exact congrArg _ (Finset.sum_congr rfl fun v _ => Finset.sum_congr rfl fun u _ => mul_assoc _ _ _)
  have hreal : 1 / 4 * ∑ v : Fin 8, ∑ u : Fin 8, C u * C v * ((b[8 * v.val + u.val]).toInt : ℝ) *
      Real.cos ((2 * (col i).val + 1) * u.val * Real.pi / 16) * Real.cos ((2 * (row i).val + 1) * v.val * Real.pi / 16) =
      ∑ v : Fin 8, ∑ u : Fin 8, ((b[8 * v.val + u.val]).toInt : ℝ) * (realBasis u (col i) * realBasis v (row i)) := by
    simp only [Finset.mul_sum]
    refine Finset.sum_congr rfl fun v _ => Finset.sum_congr rfl fun u _ => ?_
    simp only [realBasis, normalizer, C]
    ring
  rw [hreal]
  refine roundExact_near_real ?_
  have hshift : ((128 * dctScale : Int) : ℝ) = 128 * (2 ^ 256 * 2 ^ 256) := by
    rw [dctScale]
    norm_num
  rw [hacc, Int.cast_add, hshift, add_mul, add_sub_add_left_eq_sub]
  exact hsum

end

section
/-! SUPPORT. Exact halves (spec/40_transform.md R111, R112): `RoundExact` is odd, and an accumulator within the tolerance of `S/8` of the
scale is rounded as `S/8` is, halves away from zero. -/

namespace Sys2Proof.Machine

/-! ### `RoundExact` -/

/-- An accumulator within the tolerance of `m + 1/2` goes away from zero. -/
theorem roundExact_of_half {acc m : Int} (h : |acc - m * dctScale - dctHalf| ≤ dctTolerance) :
    roundExact acc = if 0 ≤ m then m + 1 else m := by
  have hsmall : dctTolerance < dctHalf := by decide
  have hscale := dctScale_eq_two_half
  obtain ⟨hlo, hhi⟩ := abs_le.1 h
  have hm : acc / dctScale = m := by
    rw [Int.ediv_eq_iff_of_pos dctScale_pos]
    constructor <;> linarith
  simp only [roundExact, hm]
  exact if_pos h

/-- An accumulator away from the halves goes to the nearest integer. -/
theorem roundExact_of_near {acc n : Int} (h : |2 * (acc - n * dctScale)| + 2 * dctTolerance < dctScale) : roundExact acc = n := by
  have hlo := neg_abs_le (2 * (acc - n * dctScale))
  have hhi := le_abs_self (2 * (acc - n * dctScale))
  exact le_antisymm (roundExact_le (by linarith)) (le_roundExact (by linarith))

/-- Every accumulator is away from the halves or within the tolerance of one. -/
theorem near_or_half (acc : Int) :
    (∃ n, |2 * (acc - n * dctScale)| + 2 * dctTolerance < dctScale) ∨ ∃ m, |acc - m * dctScale - dctHalf| ≤ dctTolerance := by
  have hscale := dctScale_eq_two_half
  have hlo := Int.emod_nonneg acc dctScale_pos.ne'
  have hhi := Int.emod_lt_of_pos acc dctScale_pos
  have hacc := Int.mul_ediv_add_emod acc dctScale
  have hrem : acc - acc / dctScale * dctScale = acc % dctScale := by rw [Int.mul_comm]; omega
  have hrem' : acc - (acc / dctScale + 1) * dctScale = acc % dctScale - dctScale := by rw [add_mul]; omega
  by_cases h : |acc % dctScale - dctHalf| ≤ dctTolerance
  · exact .inr ⟨acc / dctScale, by rw [hrem]; exact h⟩
  · rw [abs_le, not_and_or] at h
    left
    obtain h | h := h
    · refine ⟨acc / dctScale, ?_⟩
      rw [hrem, abs_of_nonneg (by omega)]
      omega
    · refine ⟨acc / dctScale + 1, ?_⟩
      rw [hrem', abs_of_nonpos (by omega)]
      omega

/-- The rounding is odd. -/
theorem roundExact_neg (acc : Int) : roundExact (-acc) = -roundExact acc := by
  obtain ⟨n, h⟩ | ⟨m, h⟩ := near_or_half acc
  · have hneg : |2 * (-acc - -n * dctScale)| = |2 * (acc - n * dctScale)| := by
      rw [← abs_neg]
      congr 1
      ring
    rw [roundExact_of_near h, roundExact_of_near (n := -n) (by rw [hneg]; exact h)]
  · have hscale := dctScale_eq_two_half
    have hneg : |-acc - (-m - 1) * dctScale - dctHalf| = |acc - m * dctScale - dctHalf| := by
      rw [← abs_neg]
      congr 1
      rw [hscale]
      ring
    rw [roundExact_of_half h, roundExact_of_half (by rw [hneg]; exact h)]
    split <;> split <;> omega

/-! ### Eighths -/

/-- `S / 8` rounded to the nearest integer, halves away from zero. -/
def roundEighths (S : Int) : Int := Int.sign S * ((S.natAbs + 4) / 8 : Nat)

theorem roundEighths_of_half {S : Int} (h : S % 8 = 4) : roundEighths S = if 0 ≤ S / 8 then S / 8 + 1 else S / 8 := by
  unfold roundEighths
  split
  · rw [Int.sign_eq_one_of_pos (by omega)]
    omega
  · rw [Int.sign_eq_neg_one_of_neg (by omega)]
    omega

theorem roundEighths_of_near {S : Int} (h : S % 8 ≠ 4) : roundEighths S = (S + 4) / 8 := by
  unfold roundEighths
  obtain hneg | rfl | hpos := lt_trichotomy S 0
  · rw [Int.sign_eq_neg_one_of_neg hneg]
    omega
  · rfl
  · rw [Int.sign_eq_one_of_pos hpos]
    omega

/-- An accumulator near `S` eighths of the scale is rounded as they are. -/
theorem roundExact_eq_roundEighths {acc S : Int} (h : |8 * acc - S * dctScale| ≤ 8 * dctTolerance) :
    roundExact acc = roundEighths S := by
  have hscale := dctScale_eq_two_half
  have hsmall : 16 * dctTolerance < dctScale := by decide
  obtain ⟨hlo, hhi⟩ := abs_le.1 h
  by_cases hhalf : S % 8 = 4
  · have hS : S * dctScale = 8 * (S / 8 * dctScale) + 8 * dctHalf := by
      calc S * dctScale = (8 * (S / 8) + 4) * dctScale := congrArg (· * dctScale) (by omega)
        _ = 8 * (S / 8 * dctScale) + 8 * dctHalf := by rw [hscale]; ring
    rw [roundEighths_of_half hhalf]
    refine roundExact_of_half (abs_le.2 ?_)
    constructor <;> linarith
  · have hS : S * dctScale = 8 * ((S + 4) / 8 * dctScale) + (S - 8 * ((S + 4) / 8)) * dctScale := by ring
    have hrest : -3 ≤ S - 8 * ((S + 4) / 8) ∧ S - 8 * ((S + 4) / 8) ≤ 3 := by omega
    have hrestLo := mul_le_mul_of_nonneg_right hrest.1 dctScale_pos.le
    have hrestHi := mul_le_mul_of_nonneg_right hrest.2 dctScale_pos.le
    rw [roundEighths_of_near hhalf]
    refine roundExact_of_near ?_
    rw [← lt_sub_iff_add_lt, abs_lt]
    constructor <;> linarith

/-! ### The basis functions without an irrational factor -/

/-- The sign of the basis function `u` in 0 and 4 at `x`. -/
def basisSign (u x : Fin 8) : Int := if u = 0 then 1 else if x = 0 ∨ x = 3 ∨ x = 4 ∨ x = 7 then 1 else -1

theorem basis_eq_sign {u : Fin 8} (hu : u = 0 ∨ u = 4) (x : Fin 8) : basis u x = basisSign u x * cosK 4 := by
  obtain rfl | rfl := hu <;> revert x <;> decide

theorem abs_basisSign (u x : Fin 8) : |basisSign u x| = 1 := by
  revert u x; decide

/-- Eight squares of the constant are the scale, to well within the tolerance. -/
theorem eight_cosK_sq_near : |8 * (cosK 4 * cosK 4) - dctScale| ≤ 2 ^ 255 * 2 ^ 5 := by decide

/-- A sum of signed entries, each taken twice with the constant, is rounded as the sum's eighths are. -/
theorem roundExact_signed_sum {shift S : Int} (h : |S| ≤ 2 ^ 20) :
    roundExact (shift * dctScale + S * (cosK 4 * cosK 4)) = roundEighths (8 * shift + S) := by
  refine roundExact_eq_roundEighths ?_
  have herr : 8 * (shift * dctScale + S * (cosK 4 * cosK 4)) - (8 * shift + S) * dctScale =
      S * (8 * (cosK 4 * cosK 4) - dctScale) := by ring
  rw [herr, abs_mul]
  calc |S| * |8 * (cosK 4 * cosK 4) - dctScale| ≤ 2 ^ 20 * (2 ^ 255 * 2 ^ 5) :=
        mul_le_mul h eight_cosK_sq_near (abs_nonneg _) (by decide)
    _ ≤ 8 * dctTolerance := by decide

/-- The signed sum of level-shifted samples is small. -/
theorem abs_signed_sum_le {b : Block} (hb : Samples b) (u v : Fin 8) :
    |∑ y : Fin 8, ∑ x : Fin 8, ((b[8 * y.val + x.val]).toInt - 128) * basisSign u x * basisSign v y| ≤ 2 ^ 20 := by
  have hterm (y x : Fin 8) : |((b[8 * y.val + x.val]).toInt - 128) * basisSign u x * basisSign v y| ≤ 128 := by
    have := hb ⟨8 * y.val + x.val, by omega⟩
    rw [abs_mul, abs_mul, abs_basisSign, abs_basisSign, mul_one, mul_one]
    exact abs_le.2 (by simp only [Fin.getElem_fin] at this; omega)
  calc |∑ y : Fin 8, ∑ x : Fin 8, ((b[8 * y.val + x.val]).toInt - 128) * basisSign u x * basisSign v y|
      ≤ ∑ _y : Fin 8, ∑ _x : Fin 8, (128 : Int) := (Finset.abs_sum_le_sum_abs _ _).trans (Finset.sum_le_sum fun y _ =>
          (Finset.abs_sum_le_sum_abs _ _).trans (Finset.sum_le_sum fun x _ => hterm y x))
    _ ≤ 2 ^ 20 := by decide

theorem fdctAcc_eq_signed {b : Block} {i : Fin 64} (hcol : col i = 0 ∨ col i = 4) (hrow : row i = 0 ∨ row i = 4) : fdctAcc b i =
    (∑ y : Fin 8, ∑ x : Fin 8, ((b[8 * y.val + x.val]).toInt - 128) * basisSign (col i) x * basisSign (row i) y) *
      (cosK 4 * cosK 4) := by
  rw [fdctAcc_eq, Finset.sum_mul]
  refine Finset.sum_congr rfl fun y _ => ?_
  rw [Finset.sum_mul]
  refine Finset.sum_congr rfl fun x _ => ?_
  rw [basis_eq_sign hcol, basis_eq_sign hrow]
  ring

/-- A block with entries only where no basis function has an irrational factor. -/
theorem idctAcc_of_sparse {b : Block} (hb : ∀ i : Fin 64, i ≠ 0 → i ≠ 4 → i ≠ 32 → i ≠ 36 → b[i] = 0) (i : Fin 64) :
    idctAcc b i =
    128 * dctScale + (b[0].toInt + b[4].toInt * basisSign 4 (col i) + b[32].toInt * basisSign 4 (row i) +
      b[36].toInt * basisSign 4 (col i) * basisSign 4 (row i)) * (cosK 4 * cosK 4) := by
  have hsum : sum64 (fun j => b[j].toInt * basis (col j) (col i) * basis (row j) (row i)) =
      ∑ j ∈ ({0, 4, 32, 36} : Finset (Fin 64)), b[j].toInt * basis (col j) (col i) * basis (row j) (row i) := by
    rw [sum64_eq_sum]
    refine (Finset.sum_subset (Finset.subset_univ _) fun j _ hj => ?_).symm
    simp only [Finset.mem_insert, Finset.mem_singleton, not_or] at hj
    obtain ⟨h0, h4, h32, h36⟩ := hj
    simp [hb j h0 h4 h32 h36]
  have hzero (x : Fin 8) : basis 0 x = cosK 4 := (basis_eq_sign (.inl rfl) x).trans (one_mul _)
  have hfour (x : Fin 8) : basis 4 x = basisSign 4 x * cosK 4 := basis_eq_sign (.inr rfl) x
  rw [idctAcc, hsum, Finset.sum_insert (by decide), Finset.sum_insert (by decide), Finset.sum_insert (by decide), Finset.sum_singleton,
    show col 0 = 0 from rfl, show row 0 = 0 from rfl, show col 4 = 4 from rfl, show row 4 = 0 from rfl, show col 32 = 0 from rfl,
    show row 32 = 4 from rfl, show col 36 = 4 from rfl, show row 36 = 4 from rfl]
  simp only [hzero, hfour, show b[(0 : Fin 64)] = b[0] from rfl, show b[(4 : Fin 64)] = b[4] from rfl,
    show b[(32 : Fin 64)] = b[32] from rfl, show b[(36 : Fin 64)] = b[36] from rfl]
  ring

theorem abs_sparse_sum_le (b : Block) (s t : Int) (hs : |s| = 1) (ht : |t| = 1) :
    |b[0].toInt + b[4].toInt * s + b[32].toInt * t + b[36].toInt * s * t| ≤ 2 ^ 20 := by
  have hentry (c : S16) : |c.toInt| ≤ 2 ^ 15 := abs_le.2 ⟨BitVec.le_toInt c, (BitVec.toInt_lt (x := c)).le⟩
  have h4 : |b[4].toInt * s| = |b[4].toInt| := by rw [abs_mul, hs, mul_one]
  have h32 : |b[32].toInt * t| = |b[32].toInt| := by rw [abs_mul, ht, mul_one]
  have h36 : |b[36].toInt * s * t| = |b[36].toInt| := by rw [abs_mul, abs_mul, hs, ht, mul_one, mul_one]
  have hsum := (abs_add_le (b[0].toInt + b[4].toInt * s + b[32].toInt * t) (b[36].toInt * s * t)).trans
    (add_le_add_left (abs_add_three b[0].toInt (b[4].toInt * s) (b[32].toInt * t)) _)
  rw [h4, h32, h36] at hsum
  linarith [hentry b[0], hentry b[4], hentry b[32], hentry b[36]]

end Sys2Proof.Machine

/-! ### The obligation -/

open Sys2Proof Sys2Proof.Machine

/-- Settles O26: with no irrational factor an accumulator is eighths of the scale, to well within the tolerance. -/
theorem transformsRoundHalvesAway : Obligations.TransformsRoundHalvesAway := by
  unfold Obligations.TransformsRoundHalvesAway
  intro σ
  refine ⟨fun b b' hb hb' hmirror i => ?_, fun b hb u v hu hv i hi => ?_, fun b hb x y i hi => ?_⟩
  · have hacc : fdctAcc b' i = -fdctAcc b i := by
      simp only [fdctAcc_eq_sum, hmirror, neg_mul, Finset.sum_neg_distrib]
    rw [fdctBlock_toInt hb', fdctBlock_toInt hb, hacc, roundExact_neg]
  · obtain ⟨rfl, rfl⟩ := row_col_of_val hi
    intro S
    have hround := roundExact_signed_sum (shift := 0) (abs_signed_sum_le hb (col i) (row i))
    rw [zero_mul, zero_add, mul_zero, zero_add] at hround
    rw [fdctBlock_toInt hb, fdctAcc_eq_signed hu hv]
    exact hround
  · obtain ⟨rfl, rfl⟩ := row_col_of_val hi
    intro S
    have hround : roundExact (idctAcc b i) = roundEighths S := by
      rw [idctAcc_of_sparse hb, roundExact_signed_sum (abs_sparse_sum_le b _ _ (abs_basisSign _ _) (abs_basisSign _ _))]
      congr 1
      simp only [S, σ, basisSign]
      ring
    refine ⟨hround, ?_⟩
    rw [idctBlock, Fin.getElem_fin, Vector.getElem_ofFn, hround, clampSample, toInt_ofInt_sample (by omega) (by omega)]
    show min 255 (max 0 (roundEighths S)) = max 0 (min 255 (roundEighths S))
    omega

end
